-- ==== Sys2Proof/Word.lean ====
section
/-! DEFINITION. The word types of the machine (00_scope.md R6). Bit 0 is the least significant bit. -/

namespace Sys2Proof

/-- Eight bits: a register, a memory byte, an instruction byte. -/
abbrev Byte := BitVec 8

/-- Four bits: an expander port, a saved PSW nibble. -/
abbrev Nibble := BitVec 4

/-- A program address (10_state.md R35). -/
abbrev Addr12 := BitVec 12

/-- The 11-bit address of `JMP` and `CALL` (30_encoding.md R126). -/
abbrev Addr11 := BitVec 11

end Sys2Proof
end

