-- ==== Sys2Proof/Syntax.lean ====
section
/-! DEFINITION. The instructions of the MCS-48 as data: operand classes (00_scope.md R10) and one constructor per row of
spec/opcode_table.json. A constructor's docstring names the row and the rule that gives it its meaning. -/

namespace Sys2Proof

/-- Operand class `rr`: working register number 0 to 7 (30_encoding.md R112). -/
abbrev Reg := Fin 8

/-- Operand class `r`: the pointer register, R0 or R1 of the selected bank (R113). -/
inductive Ptr where
  | r0 | r1
deriving DecidableEq, Repr

/-- Operand class `pp`: BUS, P1 or P2 (R115; 90_conflicts.md C5). -/
inductive Port where
  | bus | p1 | p2
deriving DecidableEq, Repr

/-- Operand class `p`: P1 or P2 (R120). -/
inductive IoPort where
  | p1 | p2
deriving DecidableEq, Repr

/-- Operand class `ep`: the 8243 expander ports P4 to P7 (R116). -/
inductive ExpPort where
  | p4 | p5 | p6 | p7
deriving DecidableEq, Repr

/-- The 93 rows of the instruction table. `k` of the `SEL` rows is a Bool: false is bank 0, true is bank 1. -/
inductive Instr where
  /-- `ADD A,rr` (R151). -/
  | addAR (n : Reg)
  /-- `ADD A,@r` (R152). -/
  | addAInd (r : Ptr)
  /-- `ADD A,#n` (R153). -/
  | addAImm (v : Byte)
  /-- `ADDC A,rr` (R154). -/
  | addcAR (n : Reg)
  /-- `ADDC A,@r` (R155). -/
  | addcAInd (r : Ptr)
  /-- `ADDC A,#n` (R156). -/
  | addcAImm (v : Byte)
  /-- `ANL A,rr` (R170). -/
  | anlAR (n : Reg)
  /-- `ANL A,@r` (R171). -/
  | anlAInd (r : Ptr)
  /-- `ANL A,#n` (R172). -/
  | anlAImm (v : Byte)
  /-- `ANL pp,#n` (R201). -/
  | anlPort (p : Port) (v : Byte)
  /-- `ANLD ep,A` (R202). -/
  | anldEp (e : ExpPort)
  /-- `CALL a` (R221). -/
  | call (a : Addr11)
  /-- `CLR A` (R173). -/
  | clrA
  /-- `CLR C` (R260). -/
  | clrC
  /-- `CLR F0` (R261). -/
  | clrF0
  /-- `CLR F1` (R262). -/
  | clrF1
  /-- `CPL A` (R174). -/
  | cplA
  /-- `CPL C` (R263). -/
  | cplC
  /-- `CPL F0` (R264). -/
  | cplF0
  /-- `CPL F1` (R265). -/
  | cplF1
  /-- `DA A` (R157). -/
  | daA
  /-- `DEC A` (R158). -/
  | decA
  /-- `DEC rr` (R159). -/
  | decR (n : Reg)
  /-- `DIS I` (R270). -/
  | disI
  /-- `DIS TCNTI` (R271). -/
  | disTcnti
  /-- `DJNZ rr,l` (R222). -/
  | djnz (n : Reg) (l : Byte)
  /-- `EN I` (R272). -/
  | enI
  /-- `EN TCNTI` (R273). -/
  | enTcnti
  /-- `ENT0 CLK` (R274). -/
  | ent0Clk
  /-- `IN A,p` (R203). -/
  | inAP (p : IoPort)
  /-- `INC A` (R160). -/
  | incA
  /-- `INC rr` (R161). -/
  | incR (n : Reg)
  /-- `INC @r` (R162). -/
  | incInd (r : Ptr)
  /-- `INS A,BUS` (R204). -/
  | insABus
  /-- `JBn l` (R223). -/
  | jbn (b : Fin 8) (l : Byte)
  /-- `JC l` (R224). -/
  | jc (l : Byte)
  /-- `JF0 l` (R225). -/
  | jf0 (l : Byte)
  /-- `JF1 l` (R226). -/
  | jf1 (l : Byte)
  /-- `JMP a` (R227). -/
  | jmp (a : Addr11)
  /-- `JMPP @A` (R228). -/
  | jmpp
  /-- `JNC l` (R229). -/
  | jnc (l : Byte)
  /-- `JNI l` (R230). -/
  | jni (l : Byte)
  /-- `JNT0 l` (R231). -/
  | jnt0 (l : Byte)
  /-- `JNT1 l` (R232). -/
  | jnt1 (l : Byte)
  /-- `JNZ l` (R233). -/
  | jnz (l : Byte)
  /-- `JOBF l` (R234). -/
  | jobf (l : Byte)
  /-- `JTF l` (R235). -/
  | jtf (l : Byte)
  /-- `JT0 l` (R236). -/
  | jt0 (l : Byte)
  /-- `JT1 l` (R237). -/
  | jt1 (l : Byte)
  /-- `JZ l` (R238). -/
  | jz (l : Byte)
  /-- `MOV A,#n` (R300). -/
  | movAImm (v : Byte)
  /-- `MOV A,PSW` (R301). -/
  | movAPsw
  /-- `MOV A,rr` (R302). -/
  | movAR (n : Reg)
  /-- `MOV A,@r` (R303). -/
  | movAInd (r : Ptr)
  /-- `MOV A,T` (R304). -/
  | movAT
  /-- `MOV PSW,A` (R305). -/
  | movPswA
  /-- `MOV rr,A` (R306). -/
  | movRA (n : Reg)
  /-- `MOV rr,#n` (R307). -/
  | movRImm (n : Reg) (v : Byte)
  /-- `MOV @r,A` (R308). -/
  | movIndA (r : Ptr)
  /-- `MOV @r,#n` (R309). -/
  | movIndImm (r : Ptr) (v : Byte)
  /-- `MOV T,A` (R310). -/
  | movTA
  /-- `MOVD A,ep` (R205). -/
  | movdAEp (e : ExpPort)
  /-- `MOVD ep,A` (R206). -/
  | movdEpA (e : ExpPort)
  /-- `MOVP A,@A` (R311). -/
  | movpA
  /-- `MOVP3 A,@A` (R312). -/
  | movp3A
  /-- `MOVX A,@r` (R313). -/
  | movxAInd (r : Ptr)
  /-- `MOVX @r,A` (R314). -/
  | movxIndA (r : Ptr)
  /-- `NOP` (R275). -/
  | nop
  /-- `ORL A,rr` (R175). -/
  | orlAR (n : Reg)
  /-- `ORL A,@r` (R176). -/
  | orlAInd (r : Ptr)
  /-- `ORL A,#n` (R177). -/
  | orlAImm (v : Byte)
  /-- `ORL pp,#n` (R207). -/
  | orlPort (p : Port) (v : Byte)
  /-- `ORLD ep,A` (R208). -/
  | orldEp (e : ExpPort)
  /-- `OUTL BUS,A` (R209). -/
  | outlBus
  /-- `OUTL p,A` (R210). -/
  | outlP (p : IoPort)
  /-- `RET` (R239). -/
  | ret
  /-- `RETR` (R240). -/
  | retr
  /-- `RL A` (R178). -/
  | rlA
  /-- `RLC A` (R179). -/
  | rlcA
  /-- `RR A` (R180). -/
  | rrA
  /-- `RRC A` (R181). -/
  | rrcA
  /-- `SEL MBk` (R276). -/
  | selMb (k : Bool)
  /-- `SEL RBk` (R277). -/
  | selRb (k : Bool)
  /-- `STOP TCNT` (R278). -/
  | stopTcnt
  /-- `STRT CNT` (R279). -/
  | strtCnt
  /-- `STRT T` (R280). -/
  | strtT
  /-- `SWAP A` (R182). -/
  | swapA
  /-- `XCH A,rr` (R315). -/
  | xchAR (n : Reg)
  /-- `XCH A,@r` (R316). -/
  | xchAInd (r : Ptr)
  /-- `XCHD A,@r` (R317). -/
  | xchdAInd (r : Ptr)
  /-- `XRL A,rr` (R183). -/
  | xrlAR (n : Reg)
  /-- `XRL A,@r` (R184). -/
  | xrlAInd (r : Ptr)
  /-- `XRL A,#n` (R185). -/
  | xrlAImm (v : Byte)
deriving DecidableEq, Repr

end Sys2Proof
end

