-- ==== Sys2Proof/WellFormed.lean ====
section
/-! DEFINITION. Which terms of `Instr` are instructions of this hardware. The operand types already bound every field
(register numbers, ports, bit numbers), so one check is left: `JOBF l` is a row of the source's table and no instruction
of the six parts (43_control_transfer.md R234, 90_conflicts.md C1). -/

namespace Sys2Proof

/-- The row the instruction stands for is selected in spec/opcode_table.json (30_encoding.md R132, R135). -/
def rowSelected : Instr → Bool
  | .jobf _ => false
  | _ => true

/-- An instruction of this hardware. -/
def wellFormed (i : Instr) : Bool := rowSelected i

end Sys2Proof
end

