-- ==== Sys2Proof/Decode.lean ====
section
/-! DEFINITION. Decoding and encoding (30_encoding.md). `decodePair` is the decode procedure of R129 over the rows of
spec/opcode_table.json, `decode` reads one instruction from any bytes, `encode` writes a well-formed one, and
`decodeTableWord` reads an instruction from the table's numbering of its bits. -/

namespace Sys2Proof

/-- Why bytes are no instruction: the list ends inside one, or its first byte is one of the 26 values of R131. -/
inductive DecodeError where
  | truncated
  | undefinedOpcode (b0 : Byte)
deriving DecidableEq, Repr

/-- Field `nnn`, bits 2:0 of byte 0 (R112, R119, R123). -/
def fieldReg (b0 : Byte) : Reg := ⟨b0.toNat % 8, Nat.mod_lt _ (by decide)⟩

/-- Field `r`, bit 0 of byte 0 (R113, R124). -/
def fieldPtr (b0 : Byte) : Ptr := if b0.getLsbD 0 then .r1 else .r0

/-- Field `pp`, bits 1:0 of byte 0; 3 is no port (R115, R131). -/
def fieldPort (b0 : Byte) : Option Port :=
  match b0.toNat % 4 with
  | 0 => some .bus
  | 1 => some .p1
  | 2 => some .p2
  | _ => none

/-- Field `qq`, bits 1:0 of byte 0; 0 and 3 are no port of format I (R120). -/
def fieldIoPort (b0 : Byte) : Option IoPort :=
  match b0.toNat % 4 with
  | 1 => some .p1
  | 2 => some .p2
  | _ => none

/-- Field `ee`, bits 1:0 of byte 0 (R116). -/
def fieldExp (b0 : Byte) : ExpPort :=
  match b0.toNat % 4 with
  | 0 => .p4
  | 1 => .p5
  | 2 => .p6
  | _ => .p7

/-- Field `bbb`, bits 7:5 of byte 0 (R121). -/
def fieldBit (b0 : Byte) : Fin 8 := ⟨b0.toNat / 32 % 8, Nat.mod_lt _ (by decide)⟩

/-- Field `k`, bit 4 of byte 0 (R125). -/
def fieldBank (b0 : Byte) : Bool := b0.getLsbD 4

/-- The 11-bit address: bits 7:5 of byte 0 above byte 1 (R117, R126). -/
def fieldAddr (b0 b1 : Byte) : Addr11 := b0.extractLsb' 5 3 ++ b1

/-- A row of the opcode table: byte 0 matches when its masked bits equal `bits` and `make` accepts its field (R135). -/
structure Row where
  mask : Byte
  bits : Byte
  make : Byte → Byte → Option Instr

/-- Rows of the table, part 1 of 4, in the table's order (mask, match, operands); the row `JOBF l` is never selected (R132). -/
def decodeRows1 : List Row :=
  [
   ⟨0xF8#8, 0x68#8, fun b0 _ => some (.addAR (fieldReg b0))⟩,
   ⟨0xFE#8, 0x60#8, fun b0 _ => some (.addAInd (fieldPtr b0))⟩,
   ⟨0xFF#8, 0x03#8, fun _ b1 => some (.addAImm b1)⟩,
   ⟨0xF8#8, 0x78#8, fun b0 _ => some (.addcAR (fieldReg b0))⟩,
   ⟨0xFE#8, 0x70#8, fun b0 _ => some (.addcAInd (fieldPtr b0))⟩,
   ⟨0xFF#8, 0x13#8, fun _ b1 => some (.addcAImm b1)⟩,
   ⟨0xF8#8, 0x58#8, fun b0 _ => some (.anlAR (fieldReg b0))⟩,
   ⟨0xFE#8, 0x50#8, fun b0 _ => some (.anlAInd (fieldPtr b0))⟩,
   ⟨0xFF#8, 0x53#8, fun _ b1 => some (.anlAImm b1)⟩,
   ⟨0xFC#8, 0x98#8, fun b0 b1 => (fieldPort b0).map fun p => .anlPort p b1⟩,
   ⟨0xFC#8, 0x9C#8, fun b0 _ => some (.anldEp (fieldExp b0))⟩,
   ⟨0x1F#8, 0x14#8, fun b0 b1 => some (.call (fieldAddr b0 b1))⟩,
   ⟨0xFF#8, 0x27#8, fun _ _ => some .clrA⟩,
   ⟨0xFF#8, 0x97#8, fun _ _ => some .clrC⟩,
   ⟨0xFF#8, 0x85#8, fun _ _ => some .clrF0⟩,
   ⟨0xFF#8, 0xA5#8, fun _ _ => some .clrF1⟩,
   ⟨0xFF#8, 0x37#8, fun _ _ => some .cplA⟩,
   ⟨0xFF#8, 0xA7#8, fun _ _ => some .cplC⟩,
   ⟨0xFF#8, 0x95#8, fun _ _ => some .cplF0⟩,
   ⟨0xFF#8, 0xB5#8, fun _ _ => some .cplF1⟩,
   ⟨0xFF#8, 0x57#8, fun _ _ => some .daA⟩,
   ⟨0xFF#8, 0x07#8, fun _ _ => some .decA⟩,
   ⟨0xF8#8, 0xC8#8, fun b0 _ => some (.decR (fieldReg b0))⟩
  ]

/-- Rows of the table, part 2 of 4, in the table's order (mask, match, operands); the row `JOBF l` is never selected (R132). -/
def decodeRows2 : List Row :=
  [
   ⟨0xFF#8, 0x15#8, fun _ _ => some .disI⟩,
   ⟨0xFF#8, 0x35#8, fun _ _ => some .disTcnti⟩,
   ⟨0xF8#8, 0xE8#8, fun b0 b1 => some (.djnz (fieldReg b0) b1)⟩,
   ⟨0xFF#8, 0x05#8, fun _ _ => some .enI⟩,
   ⟨0xFF#8, 0x25#8, fun _ _ => some .enTcnti⟩,
   ⟨0xFF#8, 0x75#8, fun _ _ => some .ent0Clk⟩,
   ⟨0xFC#8, 0x08#8, fun b0 _ => (fieldIoPort b0).map .inAP⟩,
   ⟨0xFF#8, 0x17#8, fun _ _ => some .incA⟩,
   ⟨0xF8#8, 0x18#8, fun b0 _ => some (.incR (fieldReg b0))⟩,
   ⟨0xFE#8, 0x10#8, fun b0 _ => some (.incInd (fieldPtr b0))⟩,
   ⟨0xFF#8, 0x08#8, fun _ _ => some .insABus⟩,
   ⟨0x1F#8, 0x12#8, fun b0 b1 => some (.jbn (fieldBit b0) b1)⟩,
   ⟨0xFF#8, 0xF6#8, fun _ b1 => some (.jc b1)⟩,
   ⟨0xFF#8, 0xB6#8, fun _ b1 => some (.jf0 b1)⟩,
   ⟨0xFF#8, 0x76#8, fun _ b1 => some (.jf1 b1)⟩,
   ⟨0x1F#8, 0x04#8, fun b0 b1 => some (.jmp (fieldAddr b0 b1))⟩,
   ⟨0xFF#8, 0xB3#8, fun _ _ => some .jmpp⟩,
   ⟨0xFF#8, 0xE6#8, fun _ b1 => some (.jnc b1)⟩,
   ⟨0xFF#8, 0x86#8, fun _ b1 => some (.jni b1)⟩,
   ⟨0xFF#8, 0x26#8, fun _ b1 => some (.jnt0 b1)⟩,
   ⟨0xFF#8, 0x46#8, fun _ b1 => some (.jnt1 b1)⟩,
   ⟨0xFF#8, 0x96#8, fun _ b1 => some (.jnz b1)⟩,
   ⟨0xFF#8, 0x16#8, fun _ b1 => some (.jtf b1)⟩
  ]

/-- Rows of the table, part 3 of 4, in the table's order (mask, match, operands); the row `JOBF l` is never selected (R132). -/
def decodeRows3 : List Row :=
  [
   ⟨0xFF#8, 0x36#8, fun _ b1 => some (.jt0 b1)⟩,
   ⟨0xFF#8, 0x56#8, fun _ b1 => some (.jt1 b1)⟩,
   ⟨0xFF#8, 0xC6#8, fun _ b1 => some (.jz b1)⟩,
   ⟨0xFF#8, 0x23#8, fun _ b1 => some (.movAImm b1)⟩,
   ⟨0xFF#8, 0xC7#8, fun _ _ => some .movAPsw⟩,
   ⟨0xF8#8, 0xF8#8, fun b0 _ => some (.movAR (fieldReg b0))⟩,
   ⟨0xFE#8, 0xF0#8, fun b0 _ => some (.movAInd (fieldPtr b0))⟩,
   ⟨0xFF#8, 0x42#8, fun _ _ => some .movAT⟩,
   ⟨0xFF#8, 0xD7#8, fun _ _ => some .movPswA⟩,
   ⟨0xF8#8, 0xA8#8, fun b0 _ => some (.movRA (fieldReg b0))⟩,
   ⟨0xF8#8, 0xB8#8, fun b0 b1 => some (.movRImm (fieldReg b0) b1)⟩,
   ⟨0xFE#8, 0xA0#8, fun b0 _ => some (.movIndA (fieldPtr b0))⟩,
   ⟨0xFE#8, 0xB0#8, fun b0 b1 => some (.movIndImm (fieldPtr b0) b1)⟩,
   ⟨0xFF#8, 0x62#8, fun _ _ => some .movTA⟩,
   ⟨0xFC#8, 0x0C#8, fun b0 _ => some (.movdAEp (fieldExp b0))⟩,
   ⟨0xFC#8, 0x3C#8, fun b0 _ => some (.movdEpA (fieldExp b0))⟩,
   ⟨0xFF#8, 0xA3#8, fun _ _ => some .movpA⟩,
   ⟨0xFF#8, 0xE3#8, fun _ _ => some .movp3A⟩,
   ⟨0xFE#8, 0x80#8, fun b0 _ => some (.movxAInd (fieldPtr b0))⟩,
   ⟨0xFE#8, 0x90#8, fun b0 _ => some (.movxIndA (fieldPtr b0))⟩,
   ⟨0xFF#8, 0x00#8, fun _ _ => some .nop⟩,
   ⟨0xF8#8, 0x48#8, fun b0 _ => some (.orlAR (fieldReg b0))⟩,
   ⟨0xFE#8, 0x40#8, fun b0 _ => some (.orlAInd (fieldPtr b0))⟩
  ]

/-- Rows of the table, part 4 of 4, in the table's order (mask, match, operands); the row `JOBF l` is never selected (R132). -/
def decodeRows4 : List Row :=
  [
   ⟨0xFF#8, 0x43#8, fun _ b1 => some (.orlAImm b1)⟩,
   ⟨0xFC#8, 0x88#8, fun b0 b1 => (fieldPort b0).map fun p => .orlPort p b1⟩,
   ⟨0xFC#8, 0x8C#8, fun b0 _ => some (.orldEp (fieldExp b0))⟩,
   ⟨0xFF#8, 0x02#8, fun _ _ => some .outlBus⟩,
   ⟨0xFC#8, 0x38#8, fun b0 _ => (fieldIoPort b0).map .outlP⟩,
   ⟨0xFF#8, 0x83#8, fun _ _ => some .ret⟩,
   ⟨0xFF#8, 0x93#8, fun _ _ => some .retr⟩,
   ⟨0xFF#8, 0xE7#8, fun _ _ => some .rlA⟩,
   ⟨0xFF#8, 0xF7#8, fun _ _ => some .rlcA⟩,
   ⟨0xFF#8, 0x77#8, fun _ _ => some .rrA⟩,
   ⟨0xFF#8, 0x67#8, fun _ _ => some .rrcA⟩,
   ⟨0xEF#8, 0xE5#8, fun b0 _ => some (.selMb (fieldBank b0))⟩,
   ⟨0xEF#8, 0xC5#8, fun b0 _ => some (.selRb (fieldBank b0))⟩,
   ⟨0xFF#8, 0x65#8, fun _ _ => some .stopTcnt⟩,
   ⟨0xFF#8, 0x45#8, fun _ _ => some .strtCnt⟩,
   ⟨0xFF#8, 0x55#8, fun _ _ => some .strtT⟩,
   ⟨0xFF#8, 0x47#8, fun _ _ => some .swapA⟩,
   ⟨0xF8#8, 0x28#8, fun b0 _ => some (.xchAR (fieldReg b0))⟩,
   ⟨0xFE#8, 0x20#8, fun b0 _ => some (.xchAInd (fieldPtr b0))⟩,
   ⟨0xFE#8, 0x30#8, fun b0 _ => some (.xchdAInd (fieldPtr b0))⟩,
   ⟨0xF8#8, 0xD8#8, fun b0 _ => some (.xrlAR (fieldReg b0))⟩,
   ⟨0xFE#8, 0xD0#8, fun b0 _ => some (.xrlAInd (fieldPtr b0))⟩,
   ⟨0xFF#8, 0xD3#8, fun _ b1 => some (.xrlAImm b1)⟩
  ]

/-- The 92 selected rows of spec/opcode_table.json. -/
def decodeTable : List Row := decodeRows1 ++ decodeRows2 ++ decodeRows3 ++ decodeRows4

/-- What one row makes of byte 0 and byte 1. -/
def Row.read (b0 b1 : Byte) (r : Row) : Option Instr := if b0 &&& r.mask = r.bits then r.make b0 b1 else none

/-- The decode procedure (R129): the one selected row that byte 0 matches, if any. A one-byte instruction ignores
byte 1. -/
def decodePair (b0 b1 : Byte) : Option Instr := decodeTable.findSome? (Row.read b0 b1)

/-- An instruction's length in bytes (R110). -/
def instrLength : Instr → Nat
  | .addAR _ => 1
  | .addAInd _ => 1
  | .addAImm _ => 2
  | .addcAR _ => 1
  | .addcAInd _ => 1
  | .addcAImm _ => 2
  | .anlAR _ => 1
  | .anlAInd _ => 1
  | .anlAImm _ => 2
  | .anlPort _ _ => 2
  | .anldEp _ => 1
  | .call _ => 2
  | .clrA => 1
  | .clrC => 1
  | .clrF0 => 1
  | .clrF1 => 1
  | .cplA => 1
  | .cplC => 1
  | .cplF0 => 1
  | .cplF1 => 1
  | .daA => 1
  | .decA => 1
  | .decR _ => 1
  | .disI => 1
  | .disTcnti => 1
  | .djnz _ _ => 2
  | .enI => 1
  | .enTcnti => 1
  | .ent0Clk => 1
  | .inAP _ => 1
  | .incA => 1
  | .incR _ => 1
  | .incInd _ => 1
  | .insABus => 1
  | .jbn _ _ => 2
  | .jc _ => 2
  | .jf0 _ => 2
  | .jf1 _ => 2
  | .jmp _ => 2
  | .jmpp => 1
  | .jnc _ => 2
  | .jni _ => 2
  | .jnt0 _ => 2
  | .jnt1 _ => 2
  | .jnz _ => 2
  | .jobf _ => 2
  | .jtf _ => 2
  | .jt0 _ => 2
  | .jt1 _ => 2
  | .jz _ => 2
  | .movAImm _ => 2
  | .movAPsw => 1
  | .movAR _ => 1
  | .movAInd _ => 1
  | .movAT => 1
  | .movPswA => 1
  | .movRA _ => 1
  | .movRImm _ _ => 2
  | .movIndA _ => 1
  | .movIndImm _ _ => 2
  | .movTA => 1
  | .movdAEp _ => 1
  | .movdEpA _ => 1
  | .movpA => 1
  | .movp3A => 1
  | .movxAInd _ => 1
  | .movxIndA _ => 1
  | .nop => 1
  | .orlAR _ => 1
  | .orlAInd _ => 1
  | .orlAImm _ => 2
  | .orlPort _ _ => 2
  | .orldEp _ => 1
  | .outlBus => 1
  | .outlP _ => 1
  | .ret => 1
  | .retr => 1
  | .rlA => 1
  | .rlcA => 1
  | .rrA => 1
  | .rrcA => 1
  | .selMb _ => 1
  | .selRb _ => 1
  | .stopTcnt => 1
  | .strtCnt => 1
  | .strtT => 1
  | .swapA => 1
  | .xchAR _ => 1
  | .xchAInd _ => 1
  | .xchdAInd _ => 1
  | .xrlAR _ => 1
  | .xrlAInd _ => 1
  | .xrlAImm _ => 2

/-- Read one instruction from the front of any bytes, and the bytes after it. -/
def decode (bytes : List Byte) : Except DecodeError (Instr × List Byte) :=
  match bytes with
  | [] => .error .truncated
  | b0 :: rest =>
    match decodePair b0 (rest.headD 0) with
    | none => .error (.undefinedOpcode b0)
    | some i => if instrLength i ≤ bytes.length then .ok (i, bytes.drop (instrLength i)) else .error .truncated

/-- Put a register number into bits 2:0 of an opcode (R112). -/
def withReg (op : Byte) (n : Reg) : Byte := op ||| BitVec.ofNat 8 n.val

/-- Put a pointer register into bit 0 of an opcode (R113). -/
def withPtr (op : Byte) : Ptr → Byte
  | .r0 => op
  | .r1 => op ||| 1#8

/-- Put a port into bits 1:0 of an opcode (R115). -/
def withPort (op : Byte) : Port → Byte
  | .bus => op
  | .p1 => op ||| 1#8
  | .p2 => op ||| 2#8

/-- Put a port P1 or P2 into bits 1:0 of an opcode (R120). -/
def withIoPort (op : Byte) : IoPort → Byte
  | .p1 => op ||| 1#8
  | .p2 => op ||| 2#8

/-- Put an expander port into bits 1:0 of an opcode (R116). -/
def withExp (op : Byte) : ExpPort → Byte
  | .p4 => op
  | .p5 => op ||| 1#8
  | .p6 => op ||| 2#8
  | .p7 => op ||| 3#8

/-- Put a bit number into bits 7:5 of an opcode (R121). -/
def withBit (op : Byte) (b : Fin 8) : Byte := op ||| BitVec.ofNat 8 (32 * b.val)

/-- Put a bank number into bit 4 of an opcode (R125). -/
def withBank (op : Byte) (k : Bool) : Byte := if k then op ||| 0x10#8 else op

/-- Put address bits 10:8 into bits 7:5 of an opcode (R117, R126). -/
def withAddrHigh (op : Byte) (a : Addr11) : Byte := op ||| (a.extractLsb' 8 3 ++ 0#5)

/-- The bytes of an instruction, byte 0 first (R84, R112 to R125). For `JOBF`, which is not well formed, these are the
table's bytes, which decode to `JNI` (R132). -/
def encode : Instr → List Byte
  | .addAR n => [withReg 0x68#8 n]
  | .addAInd r => [withPtr 0x60#8 r]
  | .addAImm v => [0x03#8, v]
  | .addcAR n => [withReg 0x78#8 n]
  | .addcAInd r => [withPtr 0x70#8 r]
  | .addcAImm v => [0x13#8, v]
  | .anlAR n => [withReg 0x58#8 n]
  | .anlAInd r => [withPtr 0x50#8 r]
  | .anlAImm v => [0x53#8, v]
  | .anlPort p v => [withPort 0x98#8 p, v]
  | .anldEp e => [withExp 0x9C#8 e]
  | .call a => [withAddrHigh 0x14#8 a, a.extractLsb' 0 8]
  | .clrA => [0x27#8]
  | .clrC => [0x97#8]
  | .clrF0 => [0x85#8]
  | .clrF1 => [0xA5#8]
  | .cplA => [0x37#8]
  | .cplC => [0xA7#8]
  | .cplF0 => [0x95#8]
  | .cplF1 => [0xB5#8]
  | .daA => [0x57#8]
  | .decA => [0x07#8]
  | .decR n => [withReg 0xC8#8 n]
  | .disI => [0x15#8]
  | .disTcnti => [0x35#8]
  | .djnz n l => [withReg 0xE8#8 n, l]
  | .enI => [0x05#8]
  | .enTcnti => [0x25#8]
  | .ent0Clk => [0x75#8]
  | .inAP p => [withIoPort 0x08#8 p]
  | .incA => [0x17#8]
  | .incR n => [withReg 0x18#8 n]
  | .incInd r => [withPtr 0x10#8 r]
  | .insABus => [0x08#8]
  | .jbn b l => [withBit 0x12#8 b, l]
  | .jc l => [0xF6#8, l]
  | .jf0 l => [0xB6#8, l]
  | .jf1 l => [0x76#8, l]
  | .jmp a => [withAddrHigh 0x04#8 a, a.extractLsb' 0 8]
  | .jmpp => [0xB3#8]
  | .jnc l => [0xE6#8, l]
  | .jni l => [0x86#8, l]
  | .jnt0 l => [0x26#8, l]
  | .jnt1 l => [0x46#8, l]
  | .jnz l => [0x96#8, l]
  | .jobf l => [0x86#8, l]
  | .jtf l => [0x16#8, l]
  | .jt0 l => [0x36#8, l]
  | .jt1 l => [0x56#8, l]
  | .jz l => [0xC6#8, l]
  | .movAImm v => [0x23#8, v]
  | .movAPsw => [0xC7#8]
  | .movAR n => [withReg 0xF8#8 n]
  | .movAInd r => [withPtr 0xF0#8 r]
  | .movAT => [0x42#8]
  | .movPswA => [0xD7#8]
  | .movRA n => [withReg 0xA8#8 n]
  | .movRImm n v => [withReg 0xB8#8 n, v]
  | .movIndA r => [withPtr 0xA0#8 r]
  | .movIndImm r v => [withPtr 0xB0#8 r, v]
  | .movTA => [0x62#8]
  | .movdAEp e => [withExp 0x0C#8 e]
  | .movdEpA e => [withExp 0x3C#8 e]
  | .movpA => [0xA3#8]
  | .movp3A => [0xE3#8]
  | .movxAInd r => [withPtr 0x80#8 r]
  | .movxIndA r => [withPtr 0x90#8 r]
  | .nop => [0x00#8]
  | .orlAR n => [withReg 0x48#8 n]
  | .orlAInd r => [withPtr 0x40#8 r]
  | .orlAImm v => [0x43#8, v]
  | .orlPort p v => [withPort 0x88#8 p, v]
  | .orldEp e => [withExp 0x8C#8 e]
  | .outlBus => [0x02#8]
  | .outlP p => [withIoPort 0x38#8 p]
  | .ret => [0x83#8]
  | .retr => [0x93#8]
  | .rlA => [0xE7#8]
  | .rlcA => [0xF7#8]
  | .rrA => [0x77#8]
  | .rrcA => [0x67#8]
  | .selMb k => [withBank 0xE5#8 k]
  | .selRb k => [withBank 0xC5#8 k]
  | .stopTcnt => [0x65#8]
  | .strtCnt => [0x45#8]
  | .strtT => [0x55#8]
  | .swapA => [0x47#8]
  | .xchAR n => [withReg 0x28#8 n]
  | .xchAInd r => [withPtr 0x20#8 r]
  | .xchdAInd r => [withPtr 0x30#8 r]
  | .xrlAR n => [withReg 0xD8#8 n]
  | .xrlAInd r => [withPtr 0xD0#8 r]
  | .xrlAImm v => [0xD3#8, v]

/-- The instruction that the decoder reads from an instruction's bits, numbered as spec/opcode_table.json numbers them:
byte 0 is bits 7:0, byte 1 bits 15:8; every bit from `nbits` up is 0. -/
def decodeTableWord (nbits w : Nat) : Option Instr :=
  let v := w % 2 ^ nbits
  match decode [BitVec.ofNat 8 v, BitVec.ofNat 8 (v / 256)] with
  | .ok (i, _) => some i
  | .error _ => none

end Sys2Proof
end

