-- ==== Sys2Proof/Config.lean ====
section
/-! DEFINITION. What an implementation fixes (00_scope.md R5) and the free values. The parameters whose value the spec
leaves open are plain data (`Params`), carried in State and changed by nothing; the constants follow the spec's own
decisions; `Config.pins` is the one free value, the level the host presents at the n-th draw. -/

namespace Sys2Proof

/-- Parameter `PSW_BIT4`: what PSW bit 4 holds (10_state.md R38, 92_eei_decisions.md D12). -/
inductive PswBit4 where
  | f1 | bs
deriving DecidableEq, Repr

/-- Parameter `DA_CARRY`: whether `DA A` may set C (40_arithmetic.md R157, D17). -/
inductive DaCarry where
  | unaffected | setOnCarry
deriving DecidableEq, Repr

/-- Parameter `RAM_SIZE`: 64 bytes, or 128 on the 8049 class (10_state.md R32, D15). -/
inductive RamSize where
  | bytes64 | bytes128
deriving DecidableEq, Repr

/-- The parameters of the machine (00_scope.md R5). DESIGN CHOICE, safe (log 8): they stand in State, so that a claim
about every state is a claim about every setting. -/
structure Params where
  pswBit4     : PswBit4
  pswBit3Read : Bool
  daCarry     : DaCarry
  ramSize     : RamSize
deriving DecidableEq, Repr

/-- The parameters at the values R5 gives as defaults. -/
def Params.default : Params :=
  { pswBit4 := .f1, pswBit3Read := true, daCarry := .unaffected, ramSize := .bytes64 }

/-- `VEC_RESET` (60_exceptions.md R339). -/
def Config.vecReset : Addr12 := 0x000#12

/-- `VEC_EXT` (R339). -/
def Config.vecExt : Addr12 := 0x003#12

/-- `VEC_TIMER` (R339). -/
def Config.vecTimer : Addr12 := 0x007#12

/-- `TIMER_PRESCALE`: machine cycles per increment in timer mode (R346). -/
def Config.timerPrescale : Nat := 32

/-- Machine cycles of an interrupt entry (60_exceptions.md R338, 70_reset_and_hazards.md R392). -/
def Config.entryCycles : Nat := 2

/-- The levels the host presents on every input pin at one moment; `true` is high (60_exceptions.md R353). `int` is the
level of `/INT`: false, low, requests. -/
structure PinLevels where
  p1  : Byte
  p2  : Byte
  bus : Byte
  e4  : Nibble
  e5  : Nibble
  e6  : Nibble
  e7  : Nibble
  t0  : Bool
  t1  : Bool
  int : Bool
deriving DecidableEq, Repr, Inhabited

/-- The levels at the n-th host draw, when the state lists none: a free value under no law (R7 `draw`, R353; log 5). -/
opaque Config.pins : Nat → PinLevels

end Sys2Proof
end

