-- ==== Sys2Proof/Machine/State.lean ====
section
/-! DEFINITION. The state of the machine as plain data (10_state.md R30), the reasons a step can stop, and the state after
reset (R61). Program memory and the parameters stand in State too, and nothing writes them (20_memory.md R93; log 4,
log 8). -/

namespace Sys2Proof.Machine

/-- One address space's bytes: pairs of address and byte, addresses strictly rising, no entry equal to what an unlisted
address reads as (`Memory.wf`, `Memory.fill` in Machine/Memory.lean). -/
abbrev Memory := List Host.Cell

/-- What advances `T` (10_state.md R51). -/
inductive TMode where
  | stopped | timer | counter
deriving DecidableEq, Repr

/-- What the processor shows the host (60_exceptions.md R353). The order of two events of one instruction is the model's
choice (log 14). -/
inductive HostEvent where
  /-- The output latch of a port now holds this value. -/
  | latch (p : Port) (v : Byte)
  /-- An expander port was written. -/
  | expander (e : ExpPort) (v : Nibble)
  /-- The read strobe of `INS A,BUS` and `MOVX A,@r`. -/
  | readStrobe
  /-- The write strobe of `OUTL BUS,A` and `MOVX @r,A`. -/
  | writeStrobe
  /-- External data memory was read at this address. -/
  | xramRead (a : Byte)
  /-- External data memory was written. -/
  | xramWrite (a v : Byte)
deriving DecidableEq, Repr

structure State where
  /-- The parameters of 00_scope.md R5. No instruction writes them. -/
  params    : Params
  /-- `A`, the accumulator (R31). -/
  a         : Byte
  /-- `RAM`, the internal data RAM: both register banks, the stack area, the scratchpad (R32, R33). -/
  ram       : Memory
  /-- `RB`, the register-bank select (R34). -/
  rb        : Bool
  /-- `PC`, the address of the next instruction to execute (R35). -/
  pc        : Addr12
  /-- `MBF`, the memory-bank select (R37). -/
  mbf       : Bool
  /-- `C`, carry (R41). -/
  c         : Bool
  /-- `AC`, auxiliary carry (R42). -/
  ac        : Bool
  /-- `F0` (R43). -/
  f0        : Bool
  /-- `F1` (R44). -/
  f1        : Bool
  /-- `SP`, the stack pointer (R45). -/
  sp        : BitVec 3
  /-- `T`, the timer/counter (R49). -/
  t         : Byte
  /-- `TF`, the timer flag (R50). -/
  tf        : Bool
  /-- `TMODE` (R51). -/
  tmode     : TMode
  /-- `PRESC`, the prescaler (R51). -/
  presc     : BitVec 5
  /-- `T1_PREV`, the previous sample of pin T1 (R51). -/
  t1Prev    : Bool
  /-- `IE_EXT`, external-interrupt enable (R52). -/
  ieExt     : Bool
  /-- `IE_TCNT`, timer-interrupt enable (R52). -/
  ieTcnt    : Bool
  /-- `IIP`, interrupt in progress (R53). -/
  iip       : Bool
  /-- `TIRQ`, timer interrupt request pending (R53). -/
  tirq      : Bool
  /-- `LATCH_BUS` (R54). -/
  latchBus  : Byte
  /-- `LATCH_P1` (R54). -/
  latchP1   : Byte
  /-- `LATCH_P2` (R54). -/
  latchP2   : Byte
  /-- Whether BUS is driven with `LATCH_BUS` (42_io_ports.md R200, 70_reset_and_hazards.md R386). -/
  busDriven : Bool
  /-- `EXP[4]` (R55). -/
  exp4      : Nibble
  /-- `EXP[5]` (R55). -/
  exp5      : Nibble
  /-- `EXP[6]` (R55). -/
  exp6      : Nibble
  /-- `EXP[7]` (R55). -/
  exp7      : Nibble
  /-- `T0_CLK` (R58). -/
  t0Clk     : Bool
  /-- `XRAM`, external data memory (R59). -/
  xram      : Memory
  /-- `PROG`, program memory (20_memory.md R83). No instruction writes it. -/
  prog      : Memory
  /-- The model's own: pin levels the host has decided for the coming draws, the next one first (log 5). -/
  inputs    : List PinLevels
  /-- The model's own: how many draws have been made; it indexes `Config.pins` (log 5). -/
  draws     : Nat
  /-- The model's own: what the host has been shown, newest first (log 14). -/
  shown     : List HostEvent
deriving DecidableEq, Repr

/-- Why the machine stops. -/
inductive Fault where
  /-- Raised by the fetch when byte 0 is one of the 26 values of 30_encoding.md R131. Safe: the spec gives no behaviour
  and no trap, and demands this fault. -/
  | undefinedOpcode (b0 : Byte)
  /-- Raised by `MOVX A,@r` at an address of external data memory that nothing has written (20_memory.md R82). Safe: the
  hardware goes on with some value, about which nothing is claimed. -/
  | uninitialisedXram (a : Byte)
deriving DecidableEq, Repr

/-- Why the model gives no meaning. -/
inductive Refusal where
  /-- Raised by an arm of `exec` whose instruction has no meaning yet. Safe. -/
  | notModelled (mnemonic : String)
  /-- Raised by `JOBF l`, which is no instruction of the six parts (43_control_transfer.md R234). Safe: the decoder never
  produces it. -/
  | foreignInstruction
deriving DecidableEq, Repr

/-- The machine right after reset (10_state.md R61, 70_reset_and_hazards.md R381). Fields R61 leaves unspecified hold zero:
DESIGN CHOICE, unsafe (log 1). Nothing is placed in program memory (log 4). -/
def State.reset : State :=
  { params := Params.default
    a := 0x00#8, ram := [], rb := false, pc := Config.vecReset, mbf := false
    c := false, ac := false, f0 := false, f1 := false, sp := 0#3
    t := 0x00#8, tf := false, tmode := .stopped, presc := 0#5, t1Prev := false
    ieExt := false, ieTcnt := false, iip := false, tirq := false
    latchBus := 0x00#8, latchP1 := 0xFF#8, latchP2 := 0xFF#8, busDriven := false
    exp4 := 0#4, exp5 := 0#4, exp6 := 0#4, exp7 := 0#4, t0Clk := false
    xram := [], prog := []
    inputs := [], draws := 0, shown := [] }

end Sys2Proof.Machine
end

