-- ==== Sys2Proof/Machine/Memory.lean ====
section
/-! DEFINITION. The three byte-addressed spaces (20_memory.md R80) as lists in one canonical form, with one read and one
write for all of them. Every access of this machine is one byte (R86). -/

namespace Sys2Proof.Machine

/-- The byte-addressed spaces of R80. -/
inductive Space where
  | ram | xram | prog
deriving DecidableEq, Repr

/-- What an address that the list does not hold reads as. RAM and program memory: 00H, DESIGN CHOICE (log 2, log 4).
External data memory: no value, so that reading it faults (R82; log 3). -/
def Memory.fill : Space → Option Byte
  | .ram => some 0x00#8
  | .xram => none
  | .prog => some 0x00#8

/-- The byte listed at an address. -/
def Memory.lookup : Memory → Nat → Option Byte
  | [], _ => none
  | (k, v) :: m, a => if a = k then some v else Memory.lookup m a

/-- The byte at an address of a space, none where it has no value. -/
def Memory.read (sp : Space) (m : Memory) (a : Nat) : Option Byte :=
  match Memory.lookup m a with
  | some v => some v
  | none => Memory.fill sp

/-- List a byte at its place in the rising order, over the byte listed there. -/
def Memory.insert : Memory → Nat → Byte → Memory
  | [], a, v => [(a, v)]
  | (k, w) :: m, a, v =>
    if a = k then (a, v) :: m
    else if a < k then (a, v) :: (k, w) :: m
    else (k, w) :: Memory.insert m a v

/-- Unlist an address. -/
def Memory.erase : Memory → Nat → Memory
  | [], _ => []
  | (k, w) :: m, a => if a = k then Memory.erase m a else (k, w) :: Memory.erase m a

/-- Write one byte of a space, keeping the canonical form: writing what an unlisted address reads as unlists it. -/
def Memory.write (sp : Space) (m : Memory) (a : Nat) (v : Byte) : Memory :=
  if Memory.fill sp = some v then Memory.erase m a else Memory.insert m a v

/-- Addresses rise strictly from `lo` on and stay below `size`, and no entry equals the fill. -/
def Memory.wfFrom (sp : Space) (size : Nat) : Nat → Memory → Bool
  | _, [] => true
  | lo, (k, v) :: m =>
    decide (lo ≤ k) && decide (k < size) && decide (Memory.fill sp ≠ some v) && Memory.wfFrom sp size (k + 1) m

/-- The canonical form of a space of `size` bytes. -/
def Memory.wf (sp : Space) (size : Nat) (m : Memory) : Bool := Memory.wfFrom sp size 0 m

/-- Bytes of external data memory (R82). -/
def xramSize : Nat := 256

/-- Bytes of program memory (R80). -/
def progSize : Nat := 4096

/-- Bytes of internal data RAM: parameter `RAM_SIZE` (00_scope.md R5, 10_state.md R32). -/
def ramSize (s : State) : Nat :=
  match s.params.ramSize with
  | .bytes64 => 64
  | .bytes128 => 128

/-- The byte of internal RAM at an address (`MemRead(RAM, a, 1)`). -/
def readRam (s : State) (a : Nat) : Byte := (Memory.read .ram s.ram a).getD 0x00#8

/-- `MemWrite(RAM, a, 1, v)`. -/
def writeRam (a : Nat) (v : Byte) (s : State) : State := { s with ram := Memory.write .ram s.ram a v }

/-- The byte of program memory at an address (`MemRead(PROG, a, 1)`, R83). -/
def readProg (s : State) (a : Addr12) : Byte := (Memory.read .prog s.prog a.toNat).getD 0x00#8

/-- Place a byte of program memory: the load from outside the machine, never an instruction (R93; log 4). -/
def placeProg (a : Addr12) (v : Byte) (s : State) : State := { s with prog := Memory.write .prog s.prog a.toNat v }

/-- The byte of external data memory at an address, none where nothing has written one (R82). -/
def readXram (s : State) (a : Byte) : Option Byte := Memory.read .xram s.xram a.toNat

/-- `MemWrite(XRAM, a, 1, v)`: all eight address bits are used (R82). -/
def writeXram (a : Byte) (v : Byte) (s : State) : State := { s with xram := Memory.write .xram s.xram a.toNat v }

end Sys2Proof.Machine
end

