-- ==== Sys2Proof/Machine/Ops.lean ====
section
/-! DEFINITION. The named operations over state: program-counter advance and targets, working registers, the PSW, the
stack, taking an interrupt and returning from one, host draws, ports. Every meaning is written over these. -/

namespace Sys2Proof.Machine

/-! Nibbles. -/

/-- Bits 3:0. -/
def lowNibble (v : Byte) : Nibble := v.extractLsb' 0 4

/-- Bits 7:4. -/
def highNibble (v : Byte) : Nibble := v.extractLsb' 4 4

/-! Program counter. -/

/-- `inc`: the low 11 bits advance, bit 11 stays (10_state.md R36). -/
def incPc (p : Addr12) : Addr12 := p.extractLsb' 11 1 ++ (p.extractLsb' 0 11 + 1#11)

/-- `inc` applied once for each byte of an instruction of this length at `p` (R36, 43_control_transfer.md R241). -/
def afterBytes : Nat → Addr12 → Addr12
  | 0, p => p
  | n + 1, p => afterBytes n (incPc p)

/-- `npc` of an instruction of this length at the PC (R36). -/
def npc (len : Nat) (s : State) : Addr12 := afterBytes len s.pc

/-- `pc <- target`. -/
def jumpTo (target : Addr12) (s : State) : State := { s with pc := target }

/-- `pc <- npc` (00_scope.md R7). -/
def advance (len : Nat) (s : State) : State := { s with pc := npc len s }

/-- `page_target(l) = q[11:8] : l`, `q` the address of the second byte (R219). -/
def pageTarget (s : State) (l : Byte) : Addr12 := (incPc s.pc).extractLsb' 8 4 ++ l

/-- `long_target(a) = b : a`, `b` the memory-bank select, 0 in an interrupt handler (R220, 60_exceptions.md R341). -/
def longTarget (s : State) (a : Addr11) : Addr12 := BitVec.ofBool (!s.iip && s.mbf) ++ a

/-- The program address of the byte that `@A` names: the page of `npc` of a one-byte instruction, offset `A`
(20_memory.md R83). -/
def pageByteAddr (s : State) : Addr12 := (npc 1 s).extractLsb' 8 4 ++ s.a

/-! Working registers and pointers (R33, 20_memory.md R81). -/

/-- `rbase`: the RAM address of R0 of a bank. -/
def bankBase (rb : Bool) : Nat := if rb then 0x18 else 0x00

/-- The RAM address of working register `n` of the selected bank. -/
def regAddr (s : State) (n : Reg) : Nat := bankBase s.rb + n.val

/-- `R[n]`. -/
def readReg (s : State) (n : Reg) : Byte := readRam s (regAddr s n)

/-- `R[n] <- v`. -/
def writeReg (n : Reg) (v : Byte) (s : State) : State := writeRam (regAddr s n) v s

/-- The working register that is the pointer. -/
def ptrReg : Ptr → Reg
  | .r0 => 0
  | .r1 => 1

/-- The value of the pointer register. -/
def ptrValue (s : State) (r : Ptr) : Byte := readReg s (ptrReg r)

/-- `ram(R[r])`: the pointer reduced modulo the RAM's size. -/
def indAddr (s : State) (r : Ptr) : Nat := (ptrValue s r).toNat % ramSize s

/-! The PSW (R38 to R40). -/

/-- The flag that PSW bit 4 holds: F1, or RB, by `PSW_BIT4` (R38). -/
def pswBit4 (s : State) : Bool :=
  match s.params.pswBit4 with
  | .f1 => s.f1
  | .bs => s.rb

/-- Write the flag that PSW bit 4 holds. -/
def setPswBit4 (b : Bool) (s : State) : State :=
  match s.params.pswBit4 with
  | .f1 => { s with f1 := b }
  | .bs => { s with rb := b }

/-- `psw_read()`: C : AC : F0 : bit 4 : bit 3 : SP (R39). -/
def pswRead (s : State) : Byte :=
  BitVec.ofBool s.c ++ BitVec.ofBool s.ac ++ BitVec.ofBool s.f0 ++ BitVec.ofBool (pswBit4 s) ++
    BitVec.ofBool s.params.pswBit3Read ++ s.sp

/-- `psw_write_hi(h)`: bits 7:4 only (R40). -/
def pswWriteHi (h : Nibble) (s : State) : State :=
  setPswBit4 (h.getLsbD 0) { s with c := h.getLsbD 3, ac := h.getLsbD 2, f0 := h.getLsbD 1 }

/-- `psw_write(v)`: bits 7:4 and SP; bit 3 is discarded (R40). -/
def pswWrite (v : Byte) (s : State) : State := { pswWriteHi (highNibble v) s with sp := v.extractLsb' 0 3 }

/-! The stack (R45 to R48). -/

/-- The RAM address of the even byte of the entry that a stack pointer names. -/
def stackAddr (sp : BitVec 3) : Nat := 0x08 + 2 * sp.toNat

/-- The odd byte of an entry: PSW bits 7:4 above PC bits 11:8 (R46). -/
def entryHigh (pc : Addr12) (psw : Byte) : Byte := highNibble psw ++ pc.extractLsb' 8 4

/-- `push(pc12, psw8)`: store at the entry SP names, then SP + 1 modulo 8 (R47). -/
def push (pc : Addr12) (psw : Byte) (s : State) : State :=
  { writeRam (stackAddr s.sp + 1) (entryHigh pc psw) (writeRam (stackAddr s.sp) (pc.extractLsb' 0 8) s) with
    sp := s.sp + 1#3 }

/-- The even byte of the entry that `pop` reads, at SP - 1 modulo 8 (R48). -/
def popLow (s : State) : Byte := readRam s (stackAddr (s.sp - 1#3))

/-- The odd byte of the entry that `pop` reads. -/
def popHigh (s : State) : Byte := readRam s (stackAddr (s.sp - 1#3) + 1)

/-- `pc12` of `pop()`. -/
def poppedPc (s : State) : Addr12 := lowNibble (popHigh s) ++ popLow s

/-- `psw_hi` of `pop()`. -/
def poppedPsw (s : State) : Nibble := highNibble (popHigh s)

/-- `SP <- SP - 1` modulo 8; the entry's bytes stay (R48). -/
def popSp (s : State) : State := { s with sp := s.sp - 1#3 }

/-! Taking an interrupt and returning from one (60_exceptions.md R338, R342). -/

/-- The two interrupt sources (R332). -/
inductive IrqSource where
  | external | timer
deriving DecidableEq, Repr

/-- The entry address of a source (R339). -/
def vectorOf : IrqSource → Addr12
  | .external => Config.vecExt
  | .timer => Config.vecTimer

/-- TIRQ after a source is taken: the timer's request is cleared, the external one leaves it (R338). -/
def tirqAfter (src : IrqSource) (tirq : Bool) : Bool :=
  match src with
  | .external => tirq
  | .timer => false

/-- Taking an interrupt: a forced call that saves PC and PSW bits 7:4, sets IIP and goes to the vector (R338). -/
def takeInterrupt (src : IrqSource) (s : State) : State :=
  { push s.pc (pswRead s) s with tirq := tirqAfter src s.tirq, iip := true, pc := vectorOf src }

/-- Return and restore status: pop PC and PSW bits 7:4, clear IIP (R240, R342). -/
def returnRestore (s : State) : State :=
  { pswWriteHi (poppedPsw s) (popSp s) with pc := poppedPc s, iip := false }

/-! Host draws (R353; log 5). -/

/-- The pin levels of the next draw. -/
def nextPins (s : State) : PinLevels :=
  match s.inputs with
  | p :: _ => p
  | [] => Config.pins s.draws

/-- The draw is made. -/
def usePins (s : State) : State := { s with inputs := s.inputs.tail, draws := s.draws + 1 }

/-- The host is shown something. -/
def emit (e : HostEvent) (s : State) : State := { s with shown := e :: s.shown }

/-! Ports (42_io_ports.md R200). -/

/-- The output latch of a port. -/
def latchOf (s : State) : Port → Byte
  | .bus => s.latchBus
  | .p1 => s.latchP1
  | .p2 => s.latchP2

/-- Write the output latch of a port. -/
def setLatch (p : Port) (v : Byte) (s : State) : State :=
  match p with
  | .bus => { s with latchBus := v }
  | .p1 => { s with latchP1 := v }
  | .p2 => { s with latchP2 := v }

/-- `PortWrite(p, v)`: the host sees the new latch value (R200, R353). -/
def portWrite (p : Port) (v : Byte) (s : State) : State := emit (.latch p v) (setLatch p v s)

/-- `BusWrite(v)`: as a port write, with a write strobe, and the bus is driven from then on (R200, R353). DESIGN CHOICE
(log 14): the new latch is shown before the strobe; the spec gives no order inside an instruction. -/
def busWrite (v : Byte) (s : State) : State :=
  { s with latchBus := v, busDriven := true, shown := .writeStrobe :: .latch .bus v :: s.shown }

/-- P1 or P2 as a port. -/
def ioPort : IoPort → Port
  | .p1 => .p1
  | .p2 => .p2

/-- The level on the pins of P1 or P2. -/
def pinsOf (l : PinLevels) : IoPort → Byte
  | .p1 => l.p1
  | .p2 => l.p2

/-- `PortRead(p)`: latch and pins (R200). The draw is made by `usePins`. -/
def portRead (s : State) (p : IoPort) : Byte := latchOf s (ioPort p) &&& pinsOf (nextPins s) p

/-- The bus is released: a bus read or a `MOVX` ends the driving of the latch (R200, R386). -/
def releaseBus (s : State) : State := { s with busDriven := false }

/-- A read of external data memory as the host sees it: a read strobe, and the bus is released (R200, R313, R353). DESIGN
CHOICE (log 14): the strobe is shown before the access; the spec gives no order inside an instruction. -/
def xramReadCycle (a : Byte) (s : State) : State :=
  { s with busDriven := false, shown := .xramRead a :: .readStrobe :: s.shown }

/-- A write of external data memory: a write strobe, and the bus is released (R200, R314, R353). DESIGN CHOICE (log 14):
the strobe is shown before the access; the spec gives no order inside an instruction. -/
def xramWriteCycle (a v : Byte) (s : State) : State :=
  { writeXram a v s with busDriven := false, shown := .xramWrite a v :: .writeStrobe :: s.shown }

/-- `EXP[e]`, the value last written to an expander port (R55). -/
def expOf (s : State) : ExpPort → Nibble
  | .p4 => s.exp4
  | .p5 => s.exp5
  | .p6 => s.exp6
  | .p7 => s.exp7

/-- Store `EXP[e]`. -/
def setExp (e : ExpPort) (v : Nibble) (s : State) : State :=
  match e with
  | .p4 => { s with exp4 := v }
  | .p5 => { s with exp5 := v }
  | .p6 => { s with exp6 := v }
  | .p7 => { s with exp7 := v }

/-- `ExpWrite(e, v)` (R200). -/
def expWrite (e : ExpPort) (v : Nibble) (s : State) : State := emit (.expander e v) (setExp e v s)

/-- `ExpRead(e)`: the level on the expander port's pins (R200). The draw is made by `usePins`. -/
def expRead (s : State) : ExpPort → Nibble
  | .p4 => (nextPins s).e4
  | .p5 => (nextPins s).e5
  | .p6 => (nextPins s).e6
  | .p7 => (nextPins s).e7

/-! Reset (70_reset_and_hazards.md R380, R381). -/

/-- The host's reset of a running part, taken between instructions: the fields R381 writes; the rest stay as they were.
No step makes it. DESIGN CHOICE (log 15): the FFH that reset writes into the latches of P1 and P2 adds nothing to `shown`;
the spec does not say whether the host is shown it as a latch write. -/
def resetEvent (s : State) : State :=
  { s with
    pc := Config.vecReset, sp := 0#3, rb := false, mbf := false, f0 := false, f1 := false
    ieExt := false, ieTcnt := false, iip := false, tirq := false
    tmode := .stopped, tf := false
    latchP1 := 0xFF#8, latchP2 := 0xFF#8, busDriven := false, t0Clk := false }

end Sys2Proof.Machine
end

