-- ==== Sys2Proof/Machine/Timer.lean ====
section
/-! DEFINITION. The timer/counter (60_exceptions.md R345 to R348) and the machine cycles that drive it
(70_reset_and_hazards.md R392). -/

namespace Sys2Proof.Machine

/-- Machine cycles of an instruction, the `~` column (R392). -/
def cyclesOf : Instr → Nat
  | .addAR _ => 1
  | .addAInd _ => 1
  | .addAImm _ => 2
  | .addcAR _ => 1
  | .addcAInd _ => 1
  | .addcAImm _ => 2
  | .anlAR _ => 1
  | .anlAInd _ => 1
  | .anlAImm _ => 2
  | .anlPort _ _ => 2
  | .anldEp _ => 2
  | .call _ => 2
  | .clrA => 1
  | .clrC => 1
  | .clrF0 => 1
  | .clrF1 => 1
  | .cplA => 1
  | .cplC => 1
  | .cplF0 => 1
  | .cplF1 => 1
  | .daA => 1
  | .decA => 1
  | .decR _ => 1
  | .disI => 1
  | .disTcnti => 1
  | .djnz _ _ => 2
  | .enI => 1
  | .enTcnti => 1
  | .ent0Clk => 1
  | .inAP _ => 2
  | .incA => 1
  | .incR _ => 1
  | .incInd _ => 1
  | .insABus => 2
  | .jbn _ _ => 2
  | .jc _ => 2
  | .jf0 _ => 2
  | .jf1 _ => 2
  | .jmp _ => 2
  | .jmpp => 2
  | .jnc _ => 2
  | .jni _ => 2
  | .jnt0 _ => 2
  | .jnt1 _ => 2
  | .jnz _ => 2
  | .jobf _ => 2
  | .jtf _ => 2
  | .jt0 _ => 2
  | .jt1 _ => 2
  | .jz _ => 2
  | .movAImm _ => 2
  | .movAPsw => 1
  | .movAR _ => 1
  | .movAInd _ => 1
  | .movAT => 1
  | .movPswA => 1
  | .movRA _ => 1
  | .movRImm _ _ => 2
  | .movIndA _ => 1
  | .movIndImm _ _ => 2
  | .movTA => 1
  | .movdAEp _ => 2
  | .movdEpA _ => 2
  | .movpA => 2
  | .movp3A => 2
  | .movxAInd _ => 2
  | .movxIndA _ => 2
  | .nop => 1
  | .orlAR _ => 1
  | .orlAInd _ => 1
  | .orlAImm _ => 2
  | .orlPort _ _ => 2
  | .orldEp _ => 2
  | .outlBus => 2
  | .outlP _ => 2
  | .ret => 2
  | .retr => 2
  | .rlA => 1
  | .rlcA => 1
  | .rrA => 1
  | .rrcA => 1
  | .selMb _ => 1
  | .selRb _ => 1
  | .stopTcnt => 1
  | .strtCnt => 1
  | .strtT => 1
  | .swapA => 1
  | .xchAR _ => 1
  | .xchAInd _ => 1
  | .xchdAInd _ => 1
  | .xrlAR _ => 1
  | .xrlAInd _ => 1
  | .xrlAImm _ => 2

/-- `increment_T()`: FFH goes to 00H, sets TF, and requests an interrupt if the timer interrupt is enabled (R348). -/
def incrementT (s : State) : State :=
  if s.t = 0xFF#8 then { s with t := 0x00#8, tf := true, tirq := s.tirq || s.ieTcnt } else { s with t := s.t + 1#8 }

/-- The prescaler takes `n` machine cycles: one increment of T each time it passes 32 (R346). -/
def prescale (n : Nat) (s : State) : State :=
  if Config.timerPrescale ≤ s.presc.toNat + n then
    incrementT { s with presc := BitVec.ofNat 5 (s.presc.toNat + n - Config.timerPrescale) }
  else { s with presc := BitVec.ofNat 5 (s.presc.toNat + n) }

/-- One sample of pin T1: a fall from the previous sample increments T (R347). -/
def sampleT1 (s : State) : State :=
  if s.t1Prev && !(nextPins s).t1 then incrementT (usePins { s with t1Prev := (nextPins s).t1 })
  else usePins { s with t1Prev := (nextPins s).t1 }

/-- T1 is sampled once per machine cycle (R347; log 10). -/
def sampleCycles : Nat → State → State
  | 0, s => s
  | n + 1, s => sampleCycles n (sampleT1 s)

/-- The timer/counter's part in `n` machine cycles, by TMODE (R346, R347). -/
def tick (n : Nat) (s : State) : State :=
  match s.tmode with
  | .stopped => s
  | .timer => prescale n s
  | .counter => sampleCycles n s

/-- The cycles of an instruction that the tick after it counts: none of `STRT T` (R346), none of a `STRT CNT` that
starts the counter, whose one sample is its own (R279, R347; log 11). -/
def countedCycles (i : Instr) (before : State) : Nat :=
  if i = .strtT ∨ (i = .strtCnt ∧ before.tmode ≠ .counter) then 0 else cyclesOf i

end Sys2Proof.Machine
end

