-- ==== Sys2Proof/Machine/Boundary.lean ====
section
/-! DEFINITION. The boundary after an instruction (60_exceptions.md R337): which interrupt is recognised, and what the
state is once the timer has ticked and the interrupt, if any, has been entered. -/

namespace Sys2Proof.Machine

/-- The source recognised where no external request is taken: the timer's latch (R337, R338). -/
def timerRequest (s : State) : Option IrqSource := if s.tirq then some .timer else none

/-- The source recognised at a boundary, if any: none while IIP is set; the external one wins (R336, R337, R340). -/
def recognised (s : State) : Option IrqSource :=
  if s.iip then none
  else if s.ieExt && !(nextPins s).int then some .external
  else timerRequest s

/-- The draw of `/INT` at a boundary, made where the condition of R337 depends on it (log 6). -/
def sampleInt (s : State) : State := if !s.iip && s.ieExt then usePins s else s

/-- The boundary: a recognised interrupt is entered, which takes two machine cycles (R338, R392). -/
def boundary (s : State) : State :=
  match recognised s with
  | none => sampleInt s
  | some src => tick Config.entryCycles (takeInterrupt src (sampleInt s))

/-- What the machine does around an instruction's own effect: the timer's tick, then the boundary (R337, R346; their order
is DEDUCED, log 7). -/
def completeStep (i : Instr) (before after : State) : State := boundary (tick (countedCycles i before) after)

/-- The instruction at the program counter: byte 0 at PC, byte 1 at `inc(PC)` (30_encoding.md R129). An undefined byte 0
faults (R131). -/
def fetchInstr (s : State) : Except Fault Instr :=
  match decodePair (readProg s s.pc) (readProg s (incPc s.pc)) with
  | some i => .ok i
  | none => .error (.undefinedOpcode (readProg s s.pc))

/-- Place an instruction's bits, numbered as spec/opcode_table.json numbers them, in program memory at PC and
`inc(PC)`; every bit from `nbits` up is 0 (log 4). -/
def placeAtPc (nbits w : Nat) (s : State) : State :=
  placeProg (incPc s.pc) (BitVec.ofNat 8 (w % 2 ^ nbits / 256)) (placeProg s.pc (BitVec.ofNat 8 (w % 2 ^ nbits)) s)

end Sys2Proof.Machine
end

