-- ==== Sys2Proof/Machine/Flags.lean ====
section
/-! DEFINITION. The results and flags of the arithmetic and rotate instructions (40_arithmetic.md, 41_logical.md). -/

namespace Sys2Proof.Machine

/-- A sum with its carries. -/
structure AddResult where
  sum   : Byte
  carry : Bool
  aux   : Bool
deriving DecidableEq, Repr

/-- `add8(x, y, cin)`: the sum, the carry out of bit 7 and the carry out of bit 3, the carry-in taking part in both
(R150). -/
def add8 (x y : Byte) (cin : Bool) : AddResult :=
  { sum := BitVec.ofNat 8 (x.toNat + y.toNat + cin.toNat)
    carry := decide (256 ≤ x.toNat + y.toNat + cin.toNat)
    aux := decide (16 ≤ x.toNat % 16 + y.toNat % 16 + cin.toNat) }

/-- Whether the first step of decimal adjust adds 06H (R157). -/
def daLowFix (a : Byte) (ac : Bool) : Bool := decide (9 < a.toNat % 16) || ac

/-- The value after the first step. -/
def daLow (a : Byte) (ac : Bool) : Byte := if daLowFix a ac then a + 0x06#8 else a

/-- The algorithm's `c` after the first step. -/
def daLowCarry (a : Byte) (c ac : Bool) : Bool := c || (daLowFix a ac && decide (0xF9 < a.toNat))

/-- Whether the second step adds 60H. -/
def daHighFix (a : Byte) (c ac : Bool) : Bool := decide (9 < (daLow a ac).toNat / 16) || daLowCarry a c ac

/-- `DA_FN`: the adjusted accumulator (R157). -/
def daValue (a : Byte) (c ac : Bool) : Byte := if daHighFix a c ac then daLow a ac + 0x60#8 else daLow a ac

/-- The algorithm's `c` at its end: set exactly when the second step adds (R157). -/
def daCarryOut (a : Byte) (c ac : Bool) : Bool := daHighFix a c ac

/-- C after `DA A`: unchanged, or the algorithm's `c`, by the parameter `DA_CARRY` (R157). -/
def daFlag (mode : DaCarry) (a : Byte) (c ac : Bool) : Bool :=
  match mode with
  | .unaffected => c
  | .setOnCarry => daCarryOut a c ac

/-- `RL`: A[6:0] : A[7] (R178). -/
def rotLeft (a : Byte) : Byte := a.extractLsb' 0 7 ++ BitVec.ofBool (a.getLsbD 7)

/-- `RLC`: A[6:0] : C; the carry out is A[7] (R179). -/
def rotLeftCarry (a : Byte) (c : Bool) : Byte := a.extractLsb' 0 7 ++ BitVec.ofBool c

/-- `RR`: A[0] : A[7:1] (R180). -/
def rotRight (a : Byte) : Byte := BitVec.ofBool (a.getLsbD 0) ++ a.extractLsb' 1 7

/-- `RRC`: C : A[7:1]; the carry out is A[0] (R181). -/
def rotRightCarry (a : Byte) (c : Bool) : Byte := BitVec.ofBool c ++ a.extractLsb' 1 7

/-- `SWAP`: A[3:0] : A[7:4] (R182). -/
def swapNibbles (a : Byte) : Byte := a.extractLsb' 0 4 ++ a.extractLsb' 4 4

end Sys2Proof.Machine
end

