-- ==== Sys2Proof/Machine/Operands.lean ====
section
/-! DEFINITION. The operand forms that read a byte: register, indirect, immediate (00_scope.md R10, 46_data_movement.md). -/

namespace Sys2Proof.Machine

/-- A byte operand of an instruction. -/
inductive Source where
  /-- `rr`: a working register of the selected bank. -/
  | reg (n : Reg)
  /-- `@r`: the RAM byte that the pointer register names. -/
  | ind (r : Ptr)
  /-- `#n`: the second byte of the instruction. -/
  | imm (v : Byte)
deriving DecidableEq, Repr

/-- The value of an operand (10_state.md R33, 20_memory.md R81, 30_encoding.md R128). -/
def readSource (s : State) : Source → Byte
  | .reg n => readReg s n
  | .ind r => readRam s (indAddr s r)
  | .imm v => v

/-- The length in bytes of an instruction whose operand has this form (formats A, B, C: 30_encoding.md R112 to R114). -/
def sourceLength : Source → Nat
  | .reg _ => 1
  | .ind _ => 1
  | .imm _ => 2

end Sys2Proof.Machine
end

