-- ==== Sys2Proof/Machine/Arithmetic.lean ====
section
/-! DEFINITION. The twelve arithmetic instructions (40_arithmetic.md). -/

namespace Sys2Proof.Machine

/-- The shared shape of `ADD` and `ADDC`: A, C and AC take the sum and its carries (R150 to R156). -/
def addSource (src : Source) (cin : Bool) (s : State) : State :=
  advance (sourceLength src)
    { s with
      a := (add8 s.a (readSource s src) cin).sum
      c := (add8 s.a (readSource s src) cin).carry
      ac := (add8 s.a (readSource s src) cin).aux }

/-- `ADD A,rr` (R151). -/
def execAddAR (n : Reg) (s : State) : Host.Outcome State Fault Refusal := .next (addSource (.reg n) false s)

/-- `ADD A,@r` (R152). -/
def execAddAInd (r : Ptr) (s : State) : Host.Outcome State Fault Refusal := .next (addSource (.ind r) false s)

/-- `ADD A,#n` (R153). -/
def execAddAImm (v : Byte) (s : State) : Host.Outcome State Fault Refusal := .next (addSource (.imm v) false s)

/-- `ADDC A,rr` (R154). -/
def execAddcAR (n : Reg) (s : State) : Host.Outcome State Fault Refusal := .next (addSource (.reg n) s.c s)

/-- `ADDC A,@r` (R155). -/
def execAddcAInd (r : Ptr) (s : State) : Host.Outcome State Fault Refusal := .next (addSource (.ind r) s.c s)

/-- `ADDC A,#n` (R156). -/
def execAddcAImm (v : Byte) (s : State) : Host.Outcome State Fault Refusal := .next (addSource (.imm v) s.c s)

/-- `DA A` (R157): A is adjusted; C follows the parameter `DA_CARRY`; AC is kept. -/
def execDaA (s : State) : Host.Outcome State Fault Refusal :=
  .next (advance 1 { s with a := daValue s.a s.c s.ac, c := daFlag s.params.daCarry s.a s.c s.ac })

/-- `DEC A` (R158). -/
def execDecA (s : State) : Host.Outcome State Fault Refusal := .next (advance 1 { s with a := s.a - 1#8 })

/-- `DEC rr` (R159). -/
def execDecR (n : Reg) (s : State) : Host.Outcome State Fault Refusal :=
  .next (advance 1 (writeReg n (readReg s n - 1#8) s))

/-- `INC A` (R160). -/
def execIncA (s : State) : Host.Outcome State Fault Refusal := .next (advance 1 { s with a := s.a + 1#8 })

/-- `INC rr` (R161). -/
def execIncR (n : Reg) (s : State) : Host.Outcome State Fault Refusal :=
  .next (advance 1 (writeReg n (readReg s n + 1#8) s))

/-- `INC @r` (R162): the address is computed once, before the write. -/
def execIncInd (r : Ptr) (s : State) : Host.Outcome State Fault Refusal :=
  .next (advance 1 (writeRam (indAddr s r) (readRam s (indAddr s r) + 1#8) s))

end Sys2Proof.Machine
end

