-- ==== Sys2Proof/Machine/Control.lean ====
section
/-! DEFINITION. The twenty control-transfer rows (43_control_transfer.md). -/

namespace Sys2Proof.Machine

/-- The shared shape of the two-byte jumps within a page: `page_target(l)` when taken, else `npc` (R219, R242). -/
def branch (taken : Bool) (l : Byte) (s : State) : State :=
  jumpTo (if taken then pageTarget s l else npc 2 s) s

/-- The shape of a jump on a pin: one draw, made for this instruction (R230 to R232, R236, R237). -/
def branchOnPin (taken : PinLevels → Bool) (l : Byte) (s : State) : State :=
  usePins (branch (taken (nextPins s)) l s)

/-- `CALL a` (R221): the address saved is `npc`; the target's bank is rule R220's. -/
def execCall (a : Addr11) (s : State) : Host.Outcome State Fault Refusal :=
  .next (jumpTo (longTarget s a) (push (npc 2 s) (pswRead s) s))

/-- `DJNZ rr,l` (R222): the test is on the decremented value. -/
def execDjnz (n : Reg) (l : Byte) (s : State) : Host.Outcome State Fault Refusal :=
  .next (branch (decide (readReg s n - 1#8 ≠ 0x00#8)) l (writeReg n (readReg s n - 1#8) s))

/-- `JBn l` (R223). -/
def execJbn (b : Fin 8) (l : Byte) (s : State) : Host.Outcome State Fault Refusal :=
  .next (branch (s.a.getLsbD b.val) l s)

/-- `JC l` (R224). -/
def execJc (l : Byte) (s : State) : Host.Outcome State Fault Refusal := .next (branch s.c l s)

/-- `JF0 l` (R225). -/
def execJf0 (l : Byte) (s : State) : Host.Outcome State Fault Refusal := .next (branch s.f0 l s)

/-- `JF1 l` (R226). -/
def execJf1 (l : Byte) (s : State) : Host.Outcome State Fault Refusal := .next (branch s.f1 l s)

/-- `JMP a` (R227). -/
def execJmp (a : Addr11) (s : State) : Host.Outcome State Fault Refusal := .next (jumpTo (longTarget s a) s)

/-- `JMPP @A` (R228): indirect through the page of `npc` (90_conflicts.md C3). -/
def execJmpp (s : State) : Host.Outcome State Fault Refusal :=
  .next (jumpTo ((npc 1 s).extractLsb' 8 4 ++ readProg s (pageByteAddr s)) s)

/-- `JNC l` (R229). -/
def execJnc (l : Byte) (s : State) : Host.Outcome State Fault Refusal := .next (branch (!s.c) l s)

/-- `JNI l` (R230): taken when `/INT` is low. -/
def execJni (l : Byte) (s : State) : Host.Outcome State Fault Refusal := .next (branchOnPin (fun p => !p.int) l s)

/-- `JNT0 l` (R231). -/
def execJnt0 (l : Byte) (s : State) : Host.Outcome State Fault Refusal := .next (branchOnPin (fun p => !p.t0) l s)

/-- `JNT1 l` (R232). -/
def execJnt1 (l : Byte) (s : State) : Host.Outcome State Fault Refusal := .next (branchOnPin (fun p => !p.t1) l s)

/-- `JNZ l` (R233). -/
def execJnz (l : Byte) (s : State) : Host.Outcome State Fault Refusal :=
  .next (branch (decide (s.a ≠ 0x00#8)) l s)

/-- `JOBF l` (R234): no instruction of this hardware and no semantics in the spec (90_conflicts.md C1). -/
def execJobf (_l : Byte) (_s : State) : Host.Outcome State Fault Refusal := .refused .foreignInstruction

/-- `JTF l` (R235): TF is cleared whether or not the jump is taken. -/
def execJtf (l : Byte) (s : State) : Host.Outcome State Fault Refusal := .next (branch s.tf l { s with tf := false })

/-- `JT0 l` (R236). -/
def execJt0 (l : Byte) (s : State) : Host.Outcome State Fault Refusal := .next (branchOnPin (fun p => p.t0) l s)

/-- `JT1 l` (R237). -/
def execJt1 (l : Byte) (s : State) : Host.Outcome State Fault Refusal := .next (branchOnPin (fun p => p.t1) l s)

/-- `JZ l` (R238). -/
def execJz (l : Byte) (s : State) : Host.Outcome State Fault Refusal :=
  .next (branch (decide (s.a = 0x00#8)) l s)

/-- `RET` (R239): PC only; the saved PSW bits are discarded and IIP is kept. -/
def execRet (s : State) : Host.Outcome State Fault Refusal := .next (jumpTo (poppedPc s) (popSp s))

/-- `RETR` (R240). -/
def execRetr (s : State) : Host.Outcome State Fault Refusal := .next (returnRestore s)

end Sys2Proof.Machine
end

