-- ==== Sys2Proof/Machine/FlagOps.lean ====
section
/-! DEFINITION. The six flag instructions (44_flags.md). -/

namespace Sys2Proof.Machine

/-- `CLR C` (R260). -/
def execClrC (s : State) : Host.Outcome State Fault Refusal := .next (advance 1 { s with c := false })

/-- `CLR F0` (R261). -/
def execClrF0 (s : State) : Host.Outcome State Fault Refusal := .next (advance 1 { s with f0 := false })

/-- `CLR F1` (R262). -/
def execClrF1 (s : State) : Host.Outcome State Fault Refusal := .next (advance 1 { s with f1 := false })

/-- `CPL C` (R263). -/
def execCplC (s : State) : Host.Outcome State Fault Refusal := .next (advance 1 { s with c := !s.c })

/-- `CPL F0` (R264). -/
def execCplF0 (s : State) : Host.Outcome State Fault Refusal := .next (advance 1 { s with f0 := !s.f0 })

/-- `CPL F1` (R265). -/
def execCplF1 (s : State) : Host.Outcome State Fault Refusal := .next (advance 1 { s with f1 := !s.f1 })

end Sys2Proof.Machine
end

