-- ==== Sys2Proof/Machine/Logical.lean ====
section
/-! DEFINITION. The sixteen logical, rotate and swap instructions of the accumulator (41_logical.md). None writes a flag
but `RLC` and `RRC`, which write C. -/

namespace Sys2Proof.Machine

/-- The shared shape of a logical instruction: A takes the result. -/
def logicSource (f : Byte → Byte → Byte) (src : Source) (s : State) : State :=
  advance (sourceLength src) { s with a := f s.a (readSource s src) }

/-- `ANL A,rr` (R170). -/
def execAnlAR (n : Reg) (s : State) : Host.Outcome State Fault Refusal := .next (logicSource (· &&& ·) (.reg n) s)

/-- `ANL A,@r` (R171). -/
def execAnlAInd (r : Ptr) (s : State) : Host.Outcome State Fault Refusal := .next (logicSource (· &&& ·) (.ind r) s)

/-- `ANL A,#n` (R172). -/
def execAnlAImm (v : Byte) (s : State) : Host.Outcome State Fault Refusal := .next (logicSource (· &&& ·) (.imm v) s)

/-- `CLR A` (R173). -/
def execClrA (s : State) : Host.Outcome State Fault Refusal := .next (advance 1 { s with a := 0x00#8 })

/-- `CPL A` (R174). -/
def execCplA (s : State) : Host.Outcome State Fault Refusal := .next (advance 1 { s with a := ~~~s.a })

/-- `ORL A,rr` (R175). -/
def execOrlAR (n : Reg) (s : State) : Host.Outcome State Fault Refusal := .next (logicSource (· ||| ·) (.reg n) s)

/-- `ORL A,@r` (R176). -/
def execOrlAInd (r : Ptr) (s : State) : Host.Outcome State Fault Refusal := .next (logicSource (· ||| ·) (.ind r) s)

/-- `ORL A,#n` (R177). -/
def execOrlAImm (v : Byte) (s : State) : Host.Outcome State Fault Refusal := .next (logicSource (· ||| ·) (.imm v) s)

/-- `RL A` (R178). -/
def execRlA (s : State) : Host.Outcome State Fault Refusal := .next (advance 1 { s with a := rotLeft s.a })

/-- `RLC A` (R179). -/
def execRlcA (s : State) : Host.Outcome State Fault Refusal :=
  .next (advance 1 { s with a := rotLeftCarry s.a s.c, c := s.a.getLsbD 7 })

/-- `RR A` (R180). -/
def execRrA (s : State) : Host.Outcome State Fault Refusal := .next (advance 1 { s with a := rotRight s.a })

/-- `RRC A` (R181). -/
def execRrcA (s : State) : Host.Outcome State Fault Refusal :=
  .next (advance 1 { s with a := rotRightCarry s.a s.c, c := s.a.getLsbD 0 })

/-- `SWAP A` (R182). -/
def execSwapA (s : State) : Host.Outcome State Fault Refusal := .next (advance 1 { s with a := swapNibbles s.a })

/-- `XRL A,rr` (R183). -/
def execXrlAR (n : Reg) (s : State) : Host.Outcome State Fault Refusal := .next (logicSource (· ^^^ ·) (.reg n) s)

/-- `XRL A,@r` (R184). -/
def execXrlAInd (r : Ptr) (s : State) : Host.Outcome State Fault Refusal := .next (logicSource (· ^^^ ·) (.ind r) s)

/-- `XRL A,#n` (R185). -/
def execXrlAImm (v : Byte) (s : State) : Host.Outcome State Fault Refusal := .next (logicSource (· ^^^ ·) (.imm v) s)

end Sys2Proof.Machine
end

