-- ==== Sys2Proof/Machine/Move.lean ====
section
/-! DEFINITION. The eighteen data-movement instructions (46_data_movement.md). Only `MOV PSW,A` writes flags. -/

namespace Sys2Proof.Machine

/-- The shared shape of a move into the accumulator. -/
def loadSource (src : Source) (s : State) : State := advance (sourceLength src) { s with a := readSource s src }

/-- `MOV A,#n` (R300). -/
def execMovAImm (v : Byte) (s : State) : Host.Outcome State Fault Refusal := .next (loadSource (.imm v) s)

/-- `MOV A,PSW` (R301). -/
def execMovAPsw (s : State) : Host.Outcome State Fault Refusal := .next (advance 1 { s with a := pswRead s })

/-- `MOV A,rr` (R302). -/
def execMovAR (n : Reg) (s : State) : Host.Outcome State Fault Refusal := .next (loadSource (.reg n) s)

/-- `MOV A,@r` (R303). -/
def execMovAInd (r : Ptr) (s : State) : Host.Outcome State Fault Refusal := .next (loadSource (.ind r) s)

/-- `MOV A,T` (R304). -/
def execMovAT (s : State) : Host.Outcome State Fault Refusal := .next (advance 1 { s with a := s.t })

/-- `MOV PSW,A` (R305). -/
def execMovPswA (s : State) : Host.Outcome State Fault Refusal := .next (advance 1 (pswWrite s.a s))

/-- `MOV rr,A` (R306). -/
def execMovRA (n : Reg) (s : State) : Host.Outcome State Fault Refusal := .next (advance 1 (writeReg n s.a s))

/-- `MOV rr,#n` (R307). -/
def execMovRImm (n : Reg) (v : Byte) (s : State) : Host.Outcome State Fault Refusal := .next (advance 2 (writeReg n v s))

/-- `MOV @r,A` (R308). -/
def execMovIndA (r : Ptr) (s : State) : Host.Outcome State Fault Refusal :=
  .next (advance 1 (writeRam (indAddr s r) s.a s))

/-- `MOV @r,#n` (R309). -/
def execMovIndImm (r : Ptr) (v : Byte) (s : State) : Host.Outcome State Fault Refusal :=
  .next (advance 2 (writeRam (indAddr s r) v s))

/-- `MOV T,A` (R310). -/
def execMovTA (s : State) : Host.Outcome State Fault Refusal := .next (advance 1 { s with t := s.a })

/-- `MOVP A,@A` (R311): the page of `npc`. -/
def execMovpA (s : State) : Host.Outcome State Fault Refusal :=
  .next (advance 1 { s with a := readProg s (pageByteAddr s) })

/-- `MOVP3 A,@A` (R312): page 3 of bank 0. -/
def execMovp3A (s : State) : Host.Outcome State Fault Refusal :=
  .next (advance 1 { s with a := readProg s (0x3#4 ++ s.a) })

/-- `MOVX A,@r` (R313): a read strobe, and the bus latch is no longer driven; a byte that nothing has written faults
(20_memory.md R82). -/
def execMovxAInd (r : Ptr) (s : State) : Host.Outcome State Fault Refusal :=
  match readXram s (ptrValue s r) with
  | some v => .next (advance 1 { xramReadCycle (ptrValue s r) s with a := v })
  | none => .fault (.uninitialisedXram (ptrValue s r))

/-- `MOVX @r,A` (R314): a write strobe, and the bus latch is no longer driven. -/
def execMovxIndA (r : Ptr) (s : State) : Host.Outcome State Fault Refusal :=
  .next (advance 1 (xramWriteCycle (ptrValue s r) s.a s))

/-- `XCH A,rr` (R315): both sides read before either is written. -/
def execXchAR (n : Reg) (s : State) : Host.Outcome State Fault Refusal :=
  .next (advance 1 { writeReg n s.a s with a := readReg s n })

/-- `XCH A,@r` (R316): the address is computed once, before the write. -/
def execXchAInd (r : Ptr) (s : State) : Host.Outcome State Fault Refusal :=
  .next (advance 1 { writeRam (indAddr s r) s.a s with a := readRam s (indAddr s r) })

/-- `XCHD A,@r` (R317): the low nibbles change places. -/
def execXchdAInd (r : Ptr) (s : State) : Host.Outcome State Fault Refusal :=
  .next (advance 1
    { writeRam (indAddr s r) (highNibble (readRam s (indAddr s r)) ++ lowNibble s.a) s with
      a := highNibble s.a ++ lowNibble (readRam s (indAddr s r)) })

end Sys2Proof.Machine
end

