-- ==== Sys2Proof/Machine/Ports.lean ====
section
/-! DEFINITION. The ten port instructions (42_io_ports.md). None writes a flag. -/

namespace Sys2Proof.Machine

/-- `ANL pp,#n` (R201): the latch, not the pins, is read and written. -/
def execAnlPort (p : Port) (v : Byte) (s : State) : Host.Outcome State Fault Refusal :=
  .next (advance 2 (portWrite p (latchOf s p &&& v) s))

/-- `ANLD ep,A` (R202): with the value last written to the port. -/
def execAnldEp (e : ExpPort) (s : State) : Host.Outcome State Fault Refusal :=
  .next (advance 1 (expWrite e (expOf s e &&& lowNibble s.a) s))

/-- `IN A,p` (R203). -/
def execInAP (p : IoPort) (s : State) : Host.Outcome State Fault Refusal :=
  .next (advance 1 (usePins { s with a := portRead s p }))

/-- `INS A,BUS` (R204): the pins, with a read strobe; the latch is neither read nor written, and is no longer driven. -/
def execInsABus (s : State) : Host.Outcome State Fault Refusal :=
  .next (advance 1 (emit .readStrobe (releaseBus (usePins { s with a := (nextPins s).bus }))))

/-- `MOVD A,ep` (R205): A[7:4] becomes 0. -/
def execMovdAEp (e : ExpPort) (s : State) : Host.Outcome State Fault Refusal :=
  .next (advance 1 (usePins { s with a := 0#4 ++ expRead s e }))

/-- `MOVD ep,A` (R206). -/
def execMovdEpA (e : ExpPort) (s : State) : Host.Outcome State Fault Refusal :=
  .next (advance 1 (expWrite e (lowNibble s.a) s))

/-- `ORL pp,#n` (R207). -/
def execOrlPort (p : Port) (v : Byte) (s : State) : Host.Outcome State Fault Refusal :=
  .next (advance 2 (portWrite p (latchOf s p ||| v) s))

/-- `ORLD ep,A` (R208). -/
def execOrldEp (e : ExpPort) (s : State) : Host.Outcome State Fault Refusal :=
  .next (advance 1 (expWrite e (expOf s e ||| lowNibble s.a) s))

/-- `OUTL BUS,A` (R209). -/
def execOutlBus (s : State) : Host.Outcome State Fault Refusal := .next (advance 1 (busWrite s.a s))

/-- `OUTL p,A` (R210). -/
def execOutlP (p : IoPort) (s : State) : Host.Outcome State Fault Refusal :=
  .next (advance 1 (portWrite (ioPort p) s.a s))

end Sys2Proof.Machine
end

