-- ==== Sys2Proof/Machine/System.lean ====
section
/-! DEFINITION. The eleven system-control instructions (45_system_control.md). -/

namespace Sys2Proof.Machine

/-- `DIS I` (R270). -/
def execDisI (s : State) : Host.Outcome State Fault Refusal := .next (advance 1 { s with ieExt := false })

/-- `DIS TCNTI` (R271): a pending timer request is dropped. -/
def execDisTcnti (s : State) : Host.Outcome State Fault Refusal :=
  .next (advance 1 { s with ieTcnt := false, tirq := false })

/-- `EN I` (R272). -/
def execEnI (s : State) : Host.Outcome State Fault Refusal := .next (advance 1 { s with ieExt := true })

/-- `EN TCNTI` (R273). -/
def execEnTcnti (s : State) : Host.Outcome State Fault Refusal := .next (advance 1 { s with ieTcnt := true })

/-- `ENT0 CLK` (R274). -/
def execEnt0Clk (s : State) : Host.Outcome State Fault Refusal := .next (advance 1 { s with t0Clk := true })

/-- `NOP` (R275). -/
def execNop (s : State) : Host.Outcome State Fault Refusal := .next (advance 1 s)

/-- `SEL MBk` (R276): a flag, which the next `JMP` or `CALL` copies into PC[11]. -/
def execSelMb (k : Bool) (s : State) : Host.Outcome State Fault Refusal := .next (advance 1 { s with mbf := k })

/-- `SEL RBk` (R277). -/
def execSelRb (k : Bool) (s : State) : Host.Outcome State Fault Refusal := .next (advance 1 { s with rb := k })

/-- `STOP TCNT` (R278). -/
def execStopTcnt (s : State) : Host.Outcome State Fault Refusal := .next (advance 1 { s with tmode := .stopped })

/-- The sample of T1 that `STRT CNT` takes when the counter was not running (R279). -/
def sampleForCounter (s : State) : State :=
  if s.tmode = .counter then s else usePins { s with t1Prev := (nextPins s).t1 }

/-- `STRT CNT` (R279). -/
def execStrtCnt (s : State) : Host.Outcome State Fault Refusal :=
  .next (advance 1 { sampleForCounter s with tmode := .counter })

/-- `STRT T` (R280). -/
def execStrtT (s : State) : Host.Outcome State Fault Refusal :=
  .next (advance 1 { s with tmode := .timer, presc := 0#5 })

end Sys2Proof.Machine
end

