-- ==== Sys2Proof/Machine/Dispatch.lean ====
section
/-! DEFINITION. The effect of each instruction: one arm per constructor of `Instr`, each a call of its own meaning. `s.pc`
is the instruction's own address; the timer and the interrupt boundary are the step's (Machine/Boundary.lean). -/

namespace Sys2Proof.Machine

def exec (i : Instr) (s : State) : Host.Outcome State Fault Refusal :=
  match i with
  | .addAR n => Sys2Proof.Machine.execAddAR n s
  | .addAInd r => Sys2Proof.Machine.execAddAInd r s
  | .addAImm v => Sys2Proof.Machine.execAddAImm v s
  | .addcAR n => Sys2Proof.Machine.execAddcAR n s
  | .addcAInd r => Sys2Proof.Machine.execAddcAInd r s
  | .addcAImm v => Sys2Proof.Machine.execAddcAImm v s
  | .anlAR n => Sys2Proof.Machine.execAnlAR n s
  | .anlAInd r => Sys2Proof.Machine.execAnlAInd r s
  | .anlAImm v => Sys2Proof.Machine.execAnlAImm v s
  | .anlPort p v => Sys2Proof.Machine.execAnlPort p v s
  | .anldEp e => Sys2Proof.Machine.execAnldEp e s
  | .call a => Sys2Proof.Machine.execCall a s
  | .clrA => Sys2Proof.Machine.execClrA s
  | .clrC => Sys2Proof.Machine.execClrC s
  | .clrF0 => Sys2Proof.Machine.execClrF0 s
  | .clrF1 => Sys2Proof.Machine.execClrF1 s
  | .cplA => Sys2Proof.Machine.execCplA s
  | .cplC => Sys2Proof.Machine.execCplC s
  | .cplF0 => Sys2Proof.Machine.execCplF0 s
  | .cplF1 => Sys2Proof.Machine.execCplF1 s
  | .daA => Sys2Proof.Machine.execDaA s
  | .decA => Sys2Proof.Machine.execDecA s
  | .decR n => Sys2Proof.Machine.execDecR n s
  | .disI => Sys2Proof.Machine.execDisI s
  | .disTcnti => Sys2Proof.Machine.execDisTcnti s
  | .djnz n l => Sys2Proof.Machine.execDjnz n l s
  | .enI => Sys2Proof.Machine.execEnI s
  | .enTcnti => Sys2Proof.Machine.execEnTcnti s
  | .ent0Clk => Sys2Proof.Machine.execEnt0Clk s
  | .inAP p => Sys2Proof.Machine.execInAP p s
  | .incA => Sys2Proof.Machine.execIncA s
  | .incR n => Sys2Proof.Machine.execIncR n s
  | .incInd r => Sys2Proof.Machine.execIncInd r s
  | .insABus => Sys2Proof.Machine.execInsABus s
  | .jbn b l => Sys2Proof.Machine.execJbn b l s
  | .jc l => Sys2Proof.Machine.execJc l s
  | .jf0 l => Sys2Proof.Machine.execJf0 l s
  | .jf1 l => Sys2Proof.Machine.execJf1 l s
  | .jmp a => Sys2Proof.Machine.execJmp a s
  | .jmpp => Sys2Proof.Machine.execJmpp s
  | .jnc l => Sys2Proof.Machine.execJnc l s
  | .jni l => Sys2Proof.Machine.execJni l s
  | .jnt0 l => Sys2Proof.Machine.execJnt0 l s
  | .jnt1 l => Sys2Proof.Machine.execJnt1 l s
  | .jnz l => Sys2Proof.Machine.execJnz l s
  | .jobf l => Sys2Proof.Machine.execJobf l s
  | .jtf l => Sys2Proof.Machine.execJtf l s
  | .jt0 l => Sys2Proof.Machine.execJt0 l s
  | .jt1 l => Sys2Proof.Machine.execJt1 l s
  | .jz l => Sys2Proof.Machine.execJz l s
  | .movAImm v => Sys2Proof.Machine.execMovAImm v s
  | .movAPsw => Sys2Proof.Machine.execMovAPsw s
  | .movAR n => Sys2Proof.Machine.execMovAR n s
  | .movAInd r => Sys2Proof.Machine.execMovAInd r s
  | .movAT => Sys2Proof.Machine.execMovAT s
  | .movPswA => Sys2Proof.Machine.execMovPswA s
  | .movRA n => Sys2Proof.Machine.execMovRA n s
  | .movRImm n v => Sys2Proof.Machine.execMovRImm n v s
  | .movIndA r => Sys2Proof.Machine.execMovIndA r s
  | .movIndImm r v => Sys2Proof.Machine.execMovIndImm r v s
  | .movTA => Sys2Proof.Machine.execMovTA s
  | .movdAEp e => Sys2Proof.Machine.execMovdAEp e s
  | .movdEpA e => Sys2Proof.Machine.execMovdEpA e s
  | .movpA => Sys2Proof.Machine.execMovpA s
  | .movp3A => Sys2Proof.Machine.execMovp3A s
  | .movxAInd r => Sys2Proof.Machine.execMovxAInd r s
  | .movxIndA r => Sys2Proof.Machine.execMovxIndA r s
  | .nop => Sys2Proof.Machine.execNop s
  | .orlAR n => Sys2Proof.Machine.execOrlAR n s
  | .orlAInd r => Sys2Proof.Machine.execOrlAInd r s
  | .orlAImm v => Sys2Proof.Machine.execOrlAImm v s
  | .orlPort p v => Sys2Proof.Machine.execOrlPort p v s
  | .orldEp e => Sys2Proof.Machine.execOrldEp e s
  | .outlBus => Sys2Proof.Machine.execOutlBus s
  | .outlP p => Sys2Proof.Machine.execOutlP p s
  | .ret => Sys2Proof.Machine.execRet s
  | .retr => Sys2Proof.Machine.execRetr s
  | .rlA => Sys2Proof.Machine.execRlA s
  | .rlcA => Sys2Proof.Machine.execRlcA s
  | .rrA => Sys2Proof.Machine.execRrA s
  | .rrcA => Sys2Proof.Machine.execRrcA s
  | .selMb k => Sys2Proof.Machine.execSelMb k s
  | .selRb k => Sys2Proof.Machine.execSelRb k s
  | .stopTcnt => Sys2Proof.Machine.execStopTcnt s
  | .strtCnt => Sys2Proof.Machine.execStrtCnt s
  | .strtT => Sys2Proof.Machine.execStrtT s
  | .swapA => Sys2Proof.Machine.execSwapA s
  | .xchAR n => Sys2Proof.Machine.execXchAR n s
  | .xchAInd r => Sys2Proof.Machine.execXchAInd r s
  | .xchdAInd r => Sys2Proof.Machine.execXchdAInd r s
  | .xrlAR n => Sys2Proof.Machine.execXrlAR n s
  | .xrlAInd r => Sys2Proof.Machine.execXrlAInd r s
  | .xrlAImm v => Sys2Proof.Machine.execXrlAImm v s
end Sys2Proof.Machine
end

