-- ==== Sys2Proof/Machine/Step.lean ====
section
/-! DEFINITION. One step: fetch, decode, the instruction's effect, the timer's tick, the interrupt boundary (log 7). -/

namespace Sys2Proof.Machine

/-- One step of the machine: one instruction and the boundary after it (60_exceptions.md R337). -/
def step (s : State) : Host.Outcome State Fault Refusal :=
  match fetchInstr s with
  | .error r => .fault r
  | .ok i =>
    match exec i s with
    | .next t => .next (completeStep i s t)
    | .fault r => .fault r
    | .refused r => .refused r

/-- The state with an instruction's bits placed where the next step fetches (log 4). -/
def State.withFetchWord (s : State) (nbits w : Nat) : State := placeAtPc nbits w s

end Sys2Proof.Machine
end

