-- ==== Sys2Proof/Safety.lean ====
section
/-! DEFINITION. What claims about the machine mean by a well-formed state and by a safe step. -/

namespace Sys2Proof.Machine

/-- The three memories are in canonical form, within the sizes the spec gives them (20_memory.md R80). -/
def memoryWf (s : State) : Bool :=
  Memory.wf .ram (ramSize s) s.ram && Memory.wf .xram xramSize s.xram && Memory.wf .prog progSize s.prog

/-- A pending timer request has its enable set (60_exceptions.md R333, R335): only an overflow with IE_TCNT = 1 sets the
request, and `DIS TCNTI` clears both. -/
def requestEnabled (s : State) : Bool := !s.tirq || s.ieTcnt

/-- The invariant of the machine. -/
def wellFormedState (s : State) : Bool := memoryWf s && requestEnabled s

/-- The step from here goes on: it neither faults nor is refused. -/
def safeStep (s : State) : Prop := ∃ t, step s = .next t

end Sys2Proof.Machine
end

