-- ==== Sys2Proof/Certificates/Slice0/Obligations.lean ====
section
/-! DEFINITION. The statements for the provers. `exec i s` is the effect of one instruction whose address is `s.pc`; the
step adds the timer's tick and the interrupt boundary (`StepRunsDecodedInstruction`). A frame is written as an equation:
`t = { s with f := t.f }` says that every field but `f` is as before, memories included. Where RAM is stored to, its bytes
are compared one by one with `readRam`. A docstring names the spec's own decision D<n> (92_eei_decisions.md) or the log
entry that a statement rests on. -/

namespace Sys2Proof.Claims

open Sys2Proof.Machine

/-- After: RAM reads `v` at `a` and what it read before everywhere else. -/
def ramAfter (s t : State) (a : Nat) (v : Byte) : Prop :=
  ∀ x, readRam t x = if x = a then v else readRam s x

/-- After: RAM holds the stack entry pushed at `SP` of `s` (10_state.md R46, R47), and every other byte as before. -/
def ramAfterPush (s t : State) (ret : Addr12) (psw : Byte) : Prop :=
  ∀ x, readRam t x =
    if x = 0x08 + 2 * s.sp.toNat then BitVec.ofNat 8 ret.toNat
    else if x = 0x09 + 2 * s.sp.toNat then BitVec.ofNat 8 (psw.toNat / 16 * 16 + ret.toNat / 256)
    else readRam s x

/-- The row of the table is these bytes and takes these machine cycles. -/
def listed (i : Instr) (bytes : List Byte) (cycles : Nat) : Prop := encode i = bytes ∧ cyclesOf i = cycles

/-- `ADD` with an operand of each form. -/
def addOf : Source → Instr
  | .reg n => .addAR n
  | .ind r => .addAInd r
  | .imm v => .addAImm v

/-- `ADDC` with an operand of each form. -/
def addcOf : Source → Instr
  | .reg n => .addcAR n
  | .ind r => .addcAInd r
  | .imm v => .addcAImm v

/-- Two decimal digits packed in a byte. -/
def bcd (n : Nat) : Byte := BitVec.ofNat 8 (16 * (n / 10) + n % 10)

/-- The 26 first bytes that are no instruction (30_encoding.md R131). -/
def undefinedOpcodes : List Byte :=
  [0x01#8, 0x06#8, 0x0B#8, 0x22#8, 0x33#8, 0x38#8, 0x3B#8, 0x63#8, 0x66#8, 0x73#8, 0x82#8, 0x87#8, 0x8B#8, 0x9B#8,
   0xA2#8, 0xA6#8, 0xB7#8, 0xC0#8, 0xC1#8, 0xC2#8, 0xC3#8, 0xD6#8, 0xE0#8, 0xE1#8, 0xE2#8, 0xF3#8]

/-- The rows that may change C: CA column `*` or `0` (10_state.md R41), and `DA A` when `DA_CARRY` lets it (R157). -/
def mayChangeC (p : Params) : Instr → Bool
  | .addAR _ | .addAInd _ | .addAImm _ | .addcAR _ | .addcAInd _ | .addcAImm _ => true
  | .clrC | .cplC | .rlcA | .rrcA | .movPswA | .retr => true
  | .daA => decide (p.daCarry = .setOnCarry)
  | _ => false

/-- The rows that may change AC (R42). -/
def mayChangeAC : Instr → Bool
  | .addAR _ | .addAInd _ | .addAImm _ | .addcAR _ | .addcAInd _ | .addcAImm _ | .movPswA | .retr => true
  | _ => false

/-- The rows that may change F0 (R43). -/
def mayChangeF0 : Instr → Bool
  | .clrF0 | .cplF0 | .movPswA | .retr => true
  | _ => false

/-- The rows that may change SP (46_data_movement.md R305). -/
def mayChangeSP : Instr → Bool
  | .movPswA | .call _ | .ret | .retr => true
  | _ => false

/-- The rows that write PC themselves (43_control_transfer.md). -/
def isControlTransfer : Instr → Bool
  | .call _ | .jmp _ | .jmpp | .ret | .retr | .djnz _ _ | .jbn _ _ | .jc _ | .jnc _ | .jf0 _ | .jf1 _ | .jz _ | .jnz _ => true
  | .jni _ | .jnt0 _ | .jnt1 _ | .jt0 _ | .jt1 _ | .jtf _ | .jobf _ => true
  | _ => false

/-- The one-byte rows of two machine cycles (70_reset_and_hazards.md R392). -/
def isOneByteTwoCycles : Instr → Bool
  | .anldEp _ | .inAP _ | .insABus | .jmpp | .movdAEp _ | .movdEpA _ | .movpA | .movp3A => true
  | .movxAInd _ | .movxIndA _ | .orldEp _ | .outlBus | .outlP _ | .ret | .retr => true
  | _ => false

/-- The rows that may change PC[11] (70_reset_and_hazards.md R385). -/
def mayChangeBank : Instr → Bool
  | .jmp _ | .call _ | .ret | .retr => true
  | _ => false

end Sys2Proof.Claims

open Sys2Proof Sys2Proof.Machine Sys2Proof.Claims

/-! Encoding. -/

/-- Words written out in the spec (95_test_vectors.md, 1.2) decode to the instructions it names. -/
def Obligations.SpecWordsDecode : Prop :=
  decode [0x6D#8] = .ok (.addAR 5, []) ∧
  decode [0x03#8, 0x3C#8] = .ok (.addAImm 0x3C#8, []) ∧
  decode [0x9A#8, 0x0F#8] = .ok (.anlPort .p2 0x0F#8, []) ∧
  decode [0x0E#8] = .ok (.movdAEp .p6, []) ∧
  decode [0xA4#8, 0xA7#8] = .ok (.jmp 0x5A7#11, []) ∧
  decode [0xEB#8, 0x40#8] = .ok (.djnz 3 0x40#8, []) ∧
  decode [0x0A#8] = .ok (.inAP .p2, []) ∧
  decode [0xB2#8, 0x77#8] = .ok (.jbn 5 0x77#8, []) ∧
  decode [0xB1#8, 0x01#8] = .ok (.movIndImm .r1 0x01#8, []) ∧
  decode [0xF5#8] = .ok (.selMb true, [])

/-- Decoding the bytes of a well-formed instruction, whatever follows them, gives it back. -/
def Obligations.DecodeOfEncode : Prop :=
  ∀ (i : Instr) (rest : List Byte), wellFormed i = true → decode (encode i ++ rest) = .ok (i, rest)

/-- Bytes that decode are the encoding of the well-formed instruction they decode to: each word has one meaning, and
`JOBF` is never decoded (30_encoding.md R132, 43_control_transfer.md R234). -/
def Obligations.EncodeOfDecode : Prop :=
  ∀ (bytes rest : List Byte) (i : Instr), decode bytes = .ok (i, rest) →
    wellFormed i = true ∧ bytes = encode i ++ rest

/-- A first byte matches exactly one selected row of the table, or none when it is one of the 26 (R130, R135). -/
def Obligations.OneRowPerOpcode : Prop :=
  ∀ b0 b1 : Byte, (decodeTable.filter fun r => (Row.read b0 b1 r).isSome).length =
    if b0 ∈ undefinedOpcodes then 0 else 1

/-- The step faults with `undefinedOpcode` exactly when the byte at PC is one of the 26 (the spec's decision D20). -/
def Obligations.UndefinedOpcodeFaults : Prop :=
  ∀ s : State, step s = .fault (.undefinedOpcode (readProg s s.pc)) ↔ readProg s s.pc ∈ undefinedOpcodes

/-- Placing an instruction's bits with `withFetchWord` makes it the instruction that the next step fetches, and changes
program memory only (log 4). -/
def Obligations.PlacedInstructionIsFetched : Prop :=
  ∀ (s : State) (i : Instr), wellFormed i = true →
    (∀ b0, encode i = [b0] → fetchInstr (s.withFetchWord 8 b0.toNat) = .ok i) ∧
    (∀ b0 b1, encode i = [b0, b1] → fetchInstr (s.withFetchWord 16 (b0.toNat + 256 * b1.toNat)) = .ok i) ∧
    ∀ nbits w, s.withFetchWord nbits w = { s with prog := (s.withFetchWord nbits w).prog }

/-- When the two bytes at the program counter decode to an instruction, the step is its effect, then the timer's tick for
its counted machine cycles, then the interrupt boundary; a stop of the effect is a stop of the step (log 7). Counted are
two cycles for every two-byte row and for the fifteen one-byte rows that R392 lists, one for every other row (70, R392; D36),
but none for `STRT T` (60, R346; D23) and, DEDUCED in log 11, none for a `STRT CNT` that starts the counter. -/
def Obligations.StepRunsDecodedInstruction : Prop :=
  (∀ (s : State) (i : Instr) (rest : List Byte),
    decode [readProg s s.pc, readProg s (incPc s.pc)] = .ok (i, rest) →
    step s =
      match exec i s with
      | .next t => .next (boundary (tick (countedCycles i s) t))
      | .fault r => .fault r
      | .refused r => .refused r) ∧
  (∀ i : Instr, cyclesOf i = if (encode i).length = 2 ∨ isOneByteTwoCycles i = true then 2 else 1) ∧
  ∀ s : State,
    (∀ i : Instr, i ≠ .strtT → i ≠ .strtCnt → countedCycles i s = cyclesOf i) ∧
    countedCycles .strtT s = 0 ∧
    (s.tmode = .counter → countedCycles .strtCnt s = 1) ∧
    (s.tmode ≠ .counter → countedCycles .strtCnt s = 0)

/-! Memory and operands. -/

/-- Two memories in the model's canonical form that read alike are the same list, whatever the space (log 2, 3, 4). -/
def Obligations.CanonicalMemoriesAreEqual : Prop :=
  ∀ (sp : Space) (size : Nat) (m m' : Memory), Memory.wf sp size m = true → Memory.wf sp size m' = true →
    (∀ a, Memory.read sp m a = Memory.read sp m' a) → m = m'

/-- Working register n of bank RB is RAM 00H+n or 18H+n; a pointer's address is its value modulo the RAM's size (the
spec's decision D14); a register write is seen by a pointer that names that register's byte. -/
def Obligations.RegistersAreRam : Prop :=
  ∀ (s : State) (n : Reg) (r : Ptr) (v : Byte),
    readReg s n = readRam s ((if s.rb then 0x18 else 0x00) + n.val) ∧
    readSource s (.ind r) =
      readRam s ((readRam s ((if s.rb then 0x18 else 0x00) + (match r with | .r0 => 0 | .r1 => 1))).toNat %
        (match s.params.ramSize with | .bytes64 => 64 | .bytes128 => 128)) ∧
    (regAddr s n ≠ regAddr s (ptrReg r) → indAddr s r = regAddr s n →
      readSource (writeReg n v s) (.ind r) = v)

/-! Arithmetic. -/

/-- `ADD`, three forms: A, C and AC take the sum, the carry out of bit 7 and the carry out of bit 3 (the spec's decision
D16); nothing else changes but PC. -/
def Obligations.AddGivesSumAndCarries : Prop :=
  ∀ (s : State) (src : Source), ∃ t, exec (addOf src) s = .next t ∧
    t.a.toNat = (s.a.toNat + (readSource s src).toNat) % 256 ∧
    (t.c = true ↔ 256 ≤ s.a.toNat + (readSource s src).toNat) ∧
    (t.ac = true ↔ 16 ≤ s.a.toNat % 16 + (readSource s src).toNat % 16) ∧
    t.pc = afterBytes (sourceLength src) s.pc ∧
    t = { s with a := t.a, c := t.c, ac := t.ac, pc := t.pc }

/-- `ADDC`, three forms: as `ADD` with the carry-in, which takes part in both carries (D16). -/
def Obligations.AddcGivesSumAndCarries : Prop :=
  ∀ (s : State) (src : Source), ∃ t, exec (addcOf src) s = .next t ∧
    t.a.toNat = (s.a.toNat + (readSource s src).toNat + (if s.c then 1 else 0)) % 256 ∧
    (t.c = true ↔ 256 ≤ s.a.toNat + (readSource s src).toNat + (if s.c then 1 else 0)) ∧
    (t.ac = true ↔ 16 ≤ s.a.toNat % 16 + (readSource s src).toNat % 16 + (if s.c then 1 else 0)) ∧
    t.pc = afterBytes (sourceLength src) s.pc ∧
    t = { s with a := t.a, c := t.c, ac := t.ac, pc := t.pc }

/-- `DA A` by the spec's algorithm, in numbers (its decision D17): 6 is added when the low digit is above 9 or AC is set,
then 60H when the high digit is above 9 or there is a carry; C changes only under `DA_CARRY = set_on_carry`; AC is kept. -/
def Obligations.DecimalAdjustByAlgorithm : Prop :=
  ∀ s : State, ∃ t, exec .daA s = .next t ∧
    (∀ low : Nat, ∀ carry : Prop,
      low = (if 9 < s.a.toNat % 16 ∨ s.ac = true then (s.a.toNat + 6) % 256 else s.a.toNat) →
      (carry ↔ s.c = true ∨ ((9 < s.a.toNat % 16 ∨ s.ac = true) ∧ 0xF9 < s.a.toNat)) →
      (9 < low / 16 ∨ carry → t.a.toNat = (low + 0x60) % 256) ∧
      (¬ (9 < low / 16 ∨ carry) → t.a.toNat = low) ∧
      (s.params.daCarry = .setOnCarry → (t.c = true ↔ 9 < low / 16 ∨ carry))) ∧
    (s.params.daCarry = .unaffected → t.c = s.c) ∧
    t = { s with a := t.a, c := t.c, pc := afterBytes 1 s.pc }

/-- After `ADD` or `ADDC` of two packed-BCD bytes, `DA A` leaves their BCD sum modulo 100, and C says whether it passed
99 when `DA_CARRY` lets `DA A` set it (40_arithmetic.md R157; D17). -/
def Obligations.DecimalAdjustMakesBcdSum : Prop :=
  ∀ (s : State) (src : Source) (x y : Nat), x < 100 → y < 100 → s.a = bcd x → readSource s src = bcd y →
    (∃ u t, exec (addOf src) s = .next u ∧ exec .daA u = .next t ∧ t.a = bcd ((x + y) % 100) ∧
      (s.params.daCarry = .setOnCarry → (t.c = true ↔ 100 ≤ x + y))) ∧
    (∃ u t, exec (addcOf src) s = .next u ∧ exec .daA u = .next t ∧
      t.a = bcd ((x + y + (if s.c then 1 else 0)) % 100) ∧
      (s.params.daCarry = .setOnCarry → (t.c = true ↔ 100 ≤ x + y + (if s.c then 1 else 0))))

/-- `DEC A` and `INC A`: the row's byte and cycle, A modulo 256, no flag even on the wrap (40_arithmetic.md R158, R160). PC
may change: `SequentialInstructionsAdvancePc` says how. -/
def Obligations.IncDecAccumulator : Prop :=
  listed .decA [0x07#8] 1 ∧ listed .incA [0x17#8] 1 ∧
  ∀ s : State,
    (∃ t, exec .decA s = .next t ∧ t.a.toNat = (s.a.toNat + 255) % 256 ∧ t = { s with a := t.a, pc := t.pc }) ∧
    (∃ t, exec .incA s = .next t ∧ t.a.toNat = (s.a.toNat + 1) % 256 ∧ t = { s with a := t.a, pc := t.pc })

/-- `INC rr`, `DEC rr`, `INC @r`: one RAM byte wraps modulo 256; no flag, no other byte and no other field but PC
changes (pointer reduction: the spec's decision D14). -/
def Obligations.IncDecRam : Prop :=
  ∀ (s : State) (n : Reg) (r : Ptr),
    (∃ t, exec (.incR n) s = .next t ∧
      ramAfter s t (regAddr s n) (BitVec.ofNat 8 ((readReg s n).toNat + 1)) ∧
      t = { s with ram := t.ram, pc := afterBytes 1 s.pc }) ∧
    (∃ t, exec (.decR n) s = .next t ∧
      ramAfter s t (regAddr s n) (BitVec.ofNat 8 ((readReg s n).toNat + 255)) ∧
      t = { s with ram := t.ram, pc := afterBytes 1 s.pc }) ∧
    (∃ t, exec (.incInd r) s = .next t ∧
      ramAfter s t (indAddr s r) (BitVec.ofNat 8 ((readRam s (indAddr s r)).toNat + 1)) ∧
      t = { s with ram := t.ram, pc := afterBytes 1 s.pc })

/-! Logic. -/

/-- `ANL`, `ORL`, `XRL A,#n`: the row's bytes and cycles, A bit by bit, no flag (41_logical.md R172, R177, R185). PC
may change: `SequentialInstructionsAdvancePc` says how. -/
def Obligations.LogicImmediate : Prop :=
  ∀ v : Byte,
    listed (.anlAImm v) [0x53#8, v] 2 ∧ listed (.orlAImm v) [0x43#8, v] 2 ∧ listed (.xrlAImm v) [0xD3#8, v] 2 ∧
    ∀ s : State,
      (∃ t, exec (.anlAImm v) s = .next t ∧ (∀ k, k < 8 → t.a.getLsbD k = (s.a.getLsbD k && v.getLsbD k)) ∧
        t = { s with a := t.a, pc := t.pc }) ∧
      (∃ t, exec (.orlAImm v) s = .next t ∧ (∀ k, k < 8 → t.a.getLsbD k = (s.a.getLsbD k || v.getLsbD k)) ∧
        t = { s with a := t.a, pc := t.pc }) ∧
      (∃ t, exec (.xrlAImm v) s = .next t ∧ (∀ k, k < 8 → t.a.getLsbD k = (s.a.getLsbD k ^^ v.getLsbD k)) ∧
        t = { s with a := t.a, pc := t.pc })

/-- `ANL`, `ORL`, `XRL` with a register and with the RAM byte a pointer names (pointer reduction: the spec's decision
D14): A bit by bit; no flag, no RAM byte and no other field but PC changes. -/
def Obligations.LogicRegisterAndMemory : Prop :=
  ∀ (s : State) (n : Reg) (r : Ptr),
    (∃ t, exec (.anlAR n) s = .next t ∧ (∀ k, k < 8 → t.a.getLsbD k = (s.a.getLsbD k && (readReg s n).getLsbD k)) ∧
      t = { s with a := t.a, pc := afterBytes 1 s.pc }) ∧
    (∃ t, exec (.orlAR n) s = .next t ∧ (∀ k, k < 8 → t.a.getLsbD k = (s.a.getLsbD k || (readReg s n).getLsbD k)) ∧
      t = { s with a := t.a, pc := afterBytes 1 s.pc }) ∧
    (∃ t, exec (.xrlAR n) s = .next t ∧ (∀ k, k < 8 → t.a.getLsbD k = (s.a.getLsbD k ^^ (readReg s n).getLsbD k)) ∧
      t = { s with a := t.a, pc := afterBytes 1 s.pc }) ∧
    (∃ t, exec (.anlAInd r) s = .next t ∧
      (∀ k, k < 8 → t.a.getLsbD k = (s.a.getLsbD k && (readRam s (indAddr s r)).getLsbD k)) ∧
      t = { s with a := t.a, pc := afterBytes 1 s.pc }) ∧
    (∃ t, exec (.orlAInd r) s = .next t ∧
      (∀ k, k < 8 → t.a.getLsbD k = (s.a.getLsbD k || (readRam s (indAddr s r)).getLsbD k)) ∧
      t = { s with a := t.a, pc := afterBytes 1 s.pc }) ∧
    (∃ t, exec (.xrlAInd r) s = .next t ∧
      (∀ k, k < 8 → t.a.getLsbD k = (s.a.getLsbD k ^^ (readRam s (indAddr s r)).getLsbD k)) ∧
      t = { s with a := t.a, pc := afterBytes 1 s.pc })

/-- `CLR A`, `CPL A`, `RL A`, `RR A`, `SWAP A`: the row's byte and cycle, A bit by bit, no flag (41_logical.md R173, R174,
R178, R180, R182). -/
def Obligations.AccumulatorOperations : Prop :=
  listed .clrA [0x27#8] 1 ∧ listed .cplA [0x37#8] 1 ∧ listed .rlA [0xE7#8] 1 ∧ listed .rrA [0x77#8] 1 ∧
  listed .swapA [0x47#8] 1 ∧
  ∀ s : State,
    (∃ t, exec .clrA s = .next t ∧ t.a = 0x00#8 ∧ t = { s with a := t.a, pc := t.pc }) ∧
    (∃ t, exec .cplA s = .next t ∧ (∀ k, k < 8 → t.a.getLsbD k = !s.a.getLsbD k) ∧
      t = { s with a := t.a, pc := t.pc }) ∧
    (∃ t, exec .rlA s = .next t ∧ (∀ k, k < 8 → t.a.getLsbD ((k + 1) % 8) = s.a.getLsbD k) ∧
      t = { s with a := t.a, pc := t.pc }) ∧
    (∃ t, exec .rrA s = .next t ∧ (∀ k, k < 8 → t.a.getLsbD k = s.a.getLsbD ((k + 1) % 8)) ∧
      t = { s with a := t.a, pc := t.pc }) ∧
    (∃ t, exec .swapA s = .next t ∧ (∀ k, k < 8 → t.a.getLsbD ((k + 4) % 8) = s.a.getLsbD k) ∧
      t = { s with a := t.a, pc := t.pc })

/-- `RLC A` and `RRC A` rotate the nine bits of C above A by one place (the spec derives the ring from the row's note);
AC is kept. -/
def Obligations.RotatesThroughCarry : Prop :=
  ∀ s : State,
    (∃ t, exec .rlcA s = .next t ∧ (∀ k, k < 7 → t.a.getLsbD (k + 1) = s.a.getLsbD k) ∧ t.a.getLsbD 0 = s.c ∧
      t.c = s.a.getLsbD 7 ∧ t = { s with a := t.a, c := t.c, pc := afterBytes 1 s.pc }) ∧
    (∃ t, exec .rrcA s = .next t ∧ (∀ k, k < 7 → t.a.getLsbD k = s.a.getLsbD (k + 1)) ∧ t.a.getLsbD 7 = s.c ∧
      t.c = s.a.getLsbD 0 ∧ t = { s with a := t.a, c := t.c, pc := afterBytes 1 s.pc })

/-! Flags. -/

/-- `CLR` and `CPL` of C, F0 and F1: the row's byte and cycle, that flag and no other field but PC (44_flags.md R260 to
R265). -/
def Obligations.FlagInstructions : Prop :=
  listed .clrC [0x97#8] 1 ∧ listed .clrF0 [0x85#8] 1 ∧ listed .clrF1 [0xA5#8] 1 ∧
  listed .cplC [0xA7#8] 1 ∧ listed .cplF0 [0x95#8] 1 ∧ listed .cplF1 [0xB5#8] 1 ∧
  ∀ s : State,
    (∃ t, exec .clrC s = .next t ∧ t = { s with c := false, pc := t.pc }) ∧
    (∃ t, exec .clrF0 s = .next t ∧ t = { s with f0 := false, pc := t.pc }) ∧
    (∃ t, exec .clrF1 s = .next t ∧ t = { s with f1 := false, pc := t.pc }) ∧
    (∃ t, exec .cplC s = .next t ∧ t = { s with c := !s.c, pc := t.pc }) ∧
    (∃ t, exec .cplF0 s = .next t ∧ t = { s with f0 := !s.f0, pc := t.pc }) ∧
    (∃ t, exec .cplF1 s = .next t ∧ t = { s with f1 := !s.f1, pc := t.pc })

/-- Only the rows that the spec names change C, AC, F0, SP and PC[11] (10_state.md R36, R41 to R43; 46_data_movement.md
R305; 70_reset_and_hazards.md R385; its decisions D2 to D5 and D17). -/
def Obligations.OnlyNamedRowsChangeStatusAndBank : Prop :=
  ∀ (i : Instr) (s t : State), exec i s = .next t →
    (t.c ≠ s.c → mayChangeC s.params i = true) ∧ (t.ac ≠ s.ac → mayChangeAC i = true) ∧
    (t.f0 ≠ s.f0 → mayChangeF0 i = true) ∧ (t.sp ≠ s.sp → mayChangeSP i = true) ∧
    (t.pc.getLsbD 11 ≠ s.pc.getLsbD 11 → mayChangeBank i = true)

/-- Every instruction that is no control transfer goes on to the instruction after it: PC advances by its length within
the memory bank (00_scope.md R7, 10_state.md R36; its decision D2). -/
def Obligations.SequentialInstructionsAdvancePc : Prop :=
  ∀ (i : Instr) (s t : State), exec i s = .next t → isControlTransfer i = false →
    t.pc = afterBytes (instrLength i) s.pc

/-! Ports (the spec's decisions D18 and D19). -/

/-- `ANL pp,#n`, `ORL pp,#n`, `OUTL p,A`, `OUTL BUS,A`: that latch takes the value, the host is shown it, the other latches
keep theirs; `OUTL BUS,A` also drives the bus with a write strobe (D18). The model's choices (log 14): that the strobe is
shown after the latch; and that `ANL BUS,#n` and `ORL BUS,#n` leave `busDriven` as it was and show the host the latch even
where the bus is released, of which 70_reset_and_hazards.md R386 says that the host no longer sees the latched value until
the next `OUTL BUS,A`, and which 93_implementation_defined.md U13 leaves unspecified. -/
def Obligations.PortLatchesWritten : Prop :=
  ∀ (s : State) (p : Port) (q : IoPort) (v : Byte),
    (∃ t, exec (.anlPort p v) s = .next t ∧
      (∀ x, latchOf t x = if x = p then latchOf s p &&& v else latchOf s x) ∧
      t = { s with latchBus := t.latchBus, latchP1 := t.latchP1, latchP2 := t.latchP2,
                   shown := .latch p (latchOf s p &&& v) :: s.shown, pc := afterBytes 2 s.pc }) ∧
    (∃ t, exec (.orlPort p v) s = .next t ∧
      (∀ x, latchOf t x = if x = p then latchOf s p ||| v else latchOf s x) ∧
      t = { s with latchBus := t.latchBus, latchP1 := t.latchP1, latchP2 := t.latchP2,
                   shown := .latch p (latchOf s p ||| v) :: s.shown, pc := afterBytes 2 s.pc }) ∧
    (∃ t, exec (.outlP q) s = .next t ∧
      (∀ x, latchOf t x = if x = ioPort q then s.a else latchOf s x) ∧
      t = { s with latchP1 := t.latchP1, latchP2 := t.latchP2,
                   shown := .latch (ioPort q) s.a :: s.shown, pc := afterBytes 1 s.pc }) ∧
    exec .outlBus s = .next { s with latchBus := s.a, busDriven := true,
                                     shown := .writeStrobe :: .latch .bus s.a :: s.shown, pc := afterBytes 1 s.pc }

/-- `IN A,p` reads latch and pins, `INS A,BUS` the pins with a read strobe, `MOVD A,ep` the expander's four pins above
zeros; each makes one host draw and changes no latch (D18, D19, D30; log 5). -/
def Obligations.PortPinsRead : Prop :=
  ∀ (s : State) (e : ExpPort),
    exec (.inAP .p1) s = .next { s with a := s.latchP1 &&& (nextPins s).p1, inputs := s.inputs.tail,
                                        draws := s.draws + 1, pc := afterBytes 1 s.pc } ∧
    exec (.inAP .p2) s = .next { s with a := s.latchP2 &&& (nextPins s).p2, inputs := s.inputs.tail,
                                        draws := s.draws + 1, pc := afterBytes 1 s.pc } ∧
    exec .insABus s = .next { s with a := (nextPins s).bus, busDriven := false, shown := .readStrobe :: s.shown,
                                     inputs := s.inputs.tail, draws := s.draws + 1, pc := afterBytes 1 s.pc } ∧
    ∃ t, exec (.movdAEp e) s = .next t ∧
      t.a.toNat = (match e with
        | .p4 => (nextPins s).e4
        | .p5 => (nextPins s).e5
        | .p6 => (nextPins s).e6
        | .p7 => (nextPins s).e7).toNat ∧
      t = { s with a := t.a, inputs := s.inputs.tail, draws := s.draws + 1, pc := afterBytes 1 s.pc }

/-- `MOVD ep,A`, `ANLD ep,A`, `ORLD ep,A`: that expander port takes A[3:0], or its own value combined with it, and the host
is shown it; the other expander ports keep theirs (D19; log 14). -/
def Obligations.ExpanderPortsWritten : Prop :=
  ∀ (s : State) (e : ExpPort) (i : Instr) (v : Nibble),
    (i = .movdEpA e ∧ v = s.a.extractLsb' 0 4 ∨ i = .anldEp e ∧ v = expOf s e &&& s.a.extractLsb' 0 4 ∨
      i = .orldEp e ∧ v = expOf s e ||| s.a.extractLsb' 0 4) →
    ∃ t, exec i s = .next t ∧ (∀ x, expOf t x = if x = e then v else expOf s x) ∧
      t = { s with exp4 := t.exp4, exp5 := t.exp5, exp6 := t.exp6, exp7 := t.exp7,
                   shown := .expander e v :: s.shown, pc := afterBytes 1 s.pc }

/-! Control transfer (the spec's decisions D1 to D10). -/

/-- PC arithmetic in numbers: `inc` wraps within the bank (D2), a page target keeps the page of the second byte (D5), a
long target's bank is MBF outside a handler and 0 inside one (D4). -/
def Obligations.TargetsInNumbers : Prop :=
  ∀ (s : State) (p : Addr12) (l : Byte) (a : Addr11),
    (incPc p).toNat = (if p.toNat % 2048 = 2047 then p.toNat - 2047 else p.toNat + 1) ∧
    (pageTarget s l).toNat = (incPc s.pc).toNat / 256 * 256 + l.toNat ∧
    (longTarget s a).toNat = (if s.mbf = true ∧ s.iip = false then 2048 else 0) + a.toNat

/-- `CALL a`: the entry at SP takes the address after the call and PSW bits 7:4, SP advances modulo 8, PC takes the long
target; no flag and no other byte or field changes (D8, D9, D11). -/
def Obligations.CallPushesAndJumps : Prop :=
  ∀ (s : State) (a : Addr11), ∃ t, exec (.call a) s = .next t ∧
    ramAfterPush s t (afterBytes 2 s.pc) (pswRead s) ∧ t.sp.toNat = (s.sp.toNat + 1) % 8 ∧
    t = { s with ram := t.ram, sp := t.sp, pc := longTarget s a }

/-- `RET` and `RETR`: SP goes back one modulo 8 and PC takes the 12 bits of the entry there; `RETR` alone restores C, AC,
F0 and the flag of PSW bit 4 and clears IIP; RAM is kept (D8, D10, D38, D12). -/
def Obligations.ReturnsPop : Prop :=
  ∀ s : State,
    (∃ t, exec .ret s = .next t ∧ t.sp.toNat = (s.sp.toNat + 7) % 8 ∧
      t.pc.toNat = (readRam s (0x09 + 2 * t.sp.toNat)).toNat % 16 * 256 + (readRam s (0x08 + 2 * t.sp.toNat)).toNat ∧
      t = { s with sp := t.sp, pc := t.pc }) ∧
    (∃ t, exec .retr s = .next t ∧ t.sp.toNat = (s.sp.toNat + 7) % 8 ∧
      t.pc.toNat = (readRam s (0x09 + 2 * t.sp.toNat)).toNat % 16 * 256 + (readRam s (0x08 + 2 * t.sp.toNat)).toNat ∧
      t.c = (readRam s (0x09 + 2 * t.sp.toNat)).getLsbD 7 ∧ t.ac = (readRam s (0x09 + 2 * t.sp.toNat)).getLsbD 6 ∧
      t.f0 = (readRam s (0x09 + 2 * t.sp.toNat)).getLsbD 5 ∧
      (s.params.pswBit4 = .f1 → t.f1 = (readRam s (0x09 + 2 * t.sp.toNat)).getLsbD 4 ∧ t.rb = s.rb) ∧
      (s.params.pswBit4 = .bs → t.rb = (readRam s (0x09 + 2 * t.sp.toNat)).getLsbD 4 ∧ t.f1 = s.f1) ∧
      t = { s with sp := t.sp, pc := t.pc, c := t.c, ac := t.ac, f0 := t.f0, f1 := t.f1, rb := t.rb, iip := false })

/-- A return undoes a call: from any state with the RAM, SP and parameters the call left, `RET` goes to the instruction
after the call with SP as before it, and `RETR` also brings back C, AC, F0 and the flag of PSW bit 4. -/
def Obligations.ReturnUndoesCall : Prop :=
  ∀ (s w u : State) (a : Addr11), exec (.call a) s = .next u → w.ram = u.ram → w.sp = u.sp → w.params = u.params →
    (∃ t, exec .ret w = .next t ∧ t.pc = afterBytes 2 s.pc ∧ t.sp = s.sp) ∧
    (∃ t, exec .retr w = .next t ∧ t.pc = afterBytes 2 s.pc ∧ t.sp = s.sp ∧ t.c = s.c ∧ t.ac = s.ac ∧ t.f0 = s.f0 ∧
      pswBit4 t = pswBit4 s)

/-- `JC`, `JNC`, `JF0`, `JF1`, `JZ`, `JNZ`, `JBn` go to the page target when their condition holds, else to the next
instruction; only PC changes (D5). `JTF` does so on TF, leaves TF clear either way and keeps the timer's request. -/
def Obligations.ConditionalJumps : Prop :=
  (∀ (s : State) (l : Byte), exec (.jtf l) s =
    .next { s with pc := if s.tf then pageTarget s l else afterBytes 2 s.pc, tf := false }) ∧
  ∀ (s : State) (l : Byte) (b : Fin 8) (i : Instr) (cond : Prop),
    (i = .jc l ∧ (cond ↔ s.c = true) ∨ i = .jnc l ∧ (cond ↔ s.c = false) ∨ i = .jf0 l ∧ (cond ↔ s.f0 = true) ∨
      i = .jf1 l ∧ (cond ↔ s.f1 = true) ∨ i = .jz l ∧ (cond ↔ s.a.toNat = 0) ∨ i = .jnz l ∧ (cond ↔ s.a.toNat ≠ 0) ∨
      i = .jbn b l ∧ (cond ↔ s.a.toNat / 2 ^ b.val % 2 = 1)) →
    (cond → exec i s = .next { s with pc := pageTarget s l }) ∧
    (¬ cond → exec i s = .next { s with pc := afterBytes 2 s.pc })

/-- `JNI`, `JNT0`, `JNT1`, `JT0`, `JT1` test one host draw of their pin; `JNI` jumps when `/INT` is low, whether or not the
interrupt is enabled (D5, D30). -/
def Obligations.PinJumps : Prop :=
  ∀ (s : State) (l : Byte) (i : Instr) (cond : Bool),
    (i = .jni l ∧ cond = !(nextPins s).int ∨ i = .jnt0 l ∧ cond = !(nextPins s).t0 ∨
      i = .jnt1 l ∧ cond = !(nextPins s).t1 ∨ i = .jt0 l ∧ cond = (nextPins s).t0 ∨
      i = .jt1 l ∧ cond = (nextPins s).t1) →
    exec i s = .next { s with pc := if cond then pageTarget s l else afterBytes 2 s.pc,
                              inputs := s.inputs.tail, draws := s.draws + 1 }

/-- `DJNZ`: the register is decremented modulo 256 and the jump is taken unless it became 0; a count of 0 jumps (page of
the target: D5). -/
def Obligations.DjnzCountsDown : Prop :=
  ∀ (s : State) (n : Reg) (l : Byte), ∃ t, exec (.djnz n l) s = .next t ∧
    ramAfter s t (regAddr s n) (BitVec.ofNat 8 ((readReg s n).toNat + 255)) ∧
    ((readReg s n).toNat ≠ 1 → t.pc = pageTarget s l) ∧ ((readReg s n).toNat = 1 → t.pc = afterBytes 2 s.pc) ∧
    t = { s with ram := t.ram, pc := t.pc }

/-- `JMP a` goes to the long target; `JMPP @A` goes, in the page of the next instruction, to the byte of program memory at
offset A of that page (D6, D7); only PC changes. -/
def Obligations.JmpAndJmpp : Prop :=
  ∀ s : State,
    (∀ a : Addr11, exec (.jmp a) s = .next { s with pc := longTarget s a }) ∧
    (∃ t, exec .jmpp s = .next t ∧ t = { s with pc := t.pc } ∧
      ∀ q : Addr12, q.toNat = (afterBytes 1 s.pc).toNat / 256 * 256 + s.a.toNat →
        t.pc.toNat = (afterBytes 1 s.pc).toNat / 256 * 256 + (readProg s q).toNat)

/-- `JOBF` has no meaning on this hardware: it is refused, and no bytes decode to it (43_control_transfer.md R234). -/
def Obligations.JobfIsForeign : Prop :=
  ∀ (s : State) (l : Byte), exec (.jobf l) s = .refused .foreignInstruction ∧
    ∀ bytes rest, decode bytes ≠ .ok (.jobf l, rest)

/-! System control. -/

/-- The four interrupt-enable instructions, `ENT0 CLK`, `NOP` and the two bank selects change that latch and PC only;
`DIS TCNTI` also drops the timer's request (D22); `SEL MBk` leaves PC in its bank (D3). -/
def Obligations.ControlLatches : Prop :=
  ∀ (s : State) (k : Bool),
    exec .enI s = .next { s with ieExt := true, pc := afterBytes 1 s.pc } ∧
    exec .disI s = .next { s with ieExt := false, pc := afterBytes 1 s.pc } ∧
    exec .enTcnti s = .next { s with ieTcnt := true, pc := afterBytes 1 s.pc } ∧
    exec .disTcnti s = .next { s with ieTcnt := false, tirq := false, pc := afterBytes 1 s.pc } ∧
    exec .ent0Clk s = .next { s with t0Clk := true, pc := afterBytes 1 s.pc } ∧
    exec .nop s = .next { s with pc := afterBytes 1 s.pc } ∧
    exec (.selMb k) s = .next { s with mbf := k, pc := afterBytes 1 s.pc } ∧
    exec (.selRb k) s = .next { s with rb := k, pc := afterBytes 1 s.pc }

/-- `STOP TCNT`, `STRT T`, `STRT CNT`: TMODE, and the prescaler or the sample of T1 as the spec's decision D23 has it; T,
TF and TIRQ are kept. -/
def Obligations.TimerControls : Prop :=
  ∀ s : State,
    exec .stopTcnt s = .next { s with tmode := .stopped, pc := afterBytes 1 s.pc } ∧
    exec .strtT s = .next { s with tmode := .timer, presc := 0#5, pc := afterBytes 1 s.pc } ∧
    (s.tmode = .counter → exec .strtCnt s = .next { s with pc := afterBytes 1 s.pc }) ∧
    (s.tmode ≠ .counter → exec .strtCnt s =
      .next { s with tmode := .counter, t1Prev := (nextPins s).t1, inputs := s.inputs.tail, draws := s.draws + 1,
                     pc := afterBytes 1 s.pc })

/-! Data movement. -/

/-- `MOV A,#n`, `MOV A,T`, `MOV T,A`, `MOVP3 A,@A`: the row's bytes and cycles, the destination, nothing else but PC
(46_data_movement.md R300, R304, R310, R312). PC may change: `SequentialInstructionsAdvancePc` says how. -/
def Obligations.MovesFixedByTheirRow : Prop :=
  (∀ v, listed (.movAImm v) [0x23#8, v] 2) ∧ listed .movAT [0x42#8] 1 ∧ listed .movTA [0x62#8] 1 ∧
  listed .movp3A [0xE3#8] 2 ∧
  ∀ s : State,
    (∀ v, ∃ t, exec (.movAImm v) s = .next t ∧ t = { s with a := v, pc := t.pc }) ∧
    (∃ t, exec .movAT s = .next t ∧ t = { s with a := s.t, pc := t.pc }) ∧
    (∃ t, exec .movTA s = .next t ∧ t = { s with t := s.a, pc := t.pc }) ∧
    (∀ q : Addr12, q.toNat = 0x300 + s.a.toNat →
      ∃ t, exec .movp3A s = .next t ∧ t = { s with a := readProg s q, pc := t.pc })

/-- The moves into A from a register, RAM and the current page of program memory: A takes the byte, nothing else changes
but PC. `MOVP` reads the page of the next instruction (D7); the pointer is reduced as D14 has it. -/
def Obligations.MovesIntoAccumulator : Prop :=
  ∀ s : State,
    (∀ n, exec (.movAR n) s = .next { s with a := readReg s n, pc := afterBytes 1 s.pc }) ∧
    (∀ r, exec (.movAInd r) s = .next { s with a := readRam s (indAddr s r), pc := afterBytes 1 s.pc }) ∧
    (∀ q : Addr12, q.toNat = (afterBytes 1 s.pc).toNat / 256 * 256 + s.a.toNat →
      exec .movpA s = .next { s with a := readProg s q, pc := afterBytes 1 s.pc })

/-- The moves into a register or RAM: that byte takes the value; every other byte and field but PC is kept (pointer
reduction: D14). -/
def Obligations.MovesIntoRam : Prop :=
  ∀ (s : State) (n : Reg) (r : Ptr) (v : Byte),
    (∃ t, exec (.movRA n) s = .next t ∧ ramAfter s t (regAddr s n) s.a ∧
      t = { s with ram := t.ram, pc := afterBytes 1 s.pc }) ∧
    (∃ t, exec (.movRImm n v) s = .next t ∧ ramAfter s t (regAddr s n) v ∧
      t = { s with ram := t.ram, pc := afterBytes 2 s.pc }) ∧
    (∃ t, exec (.movIndA r) s = .next t ∧ ramAfter s t (indAddr s r) s.a ∧
      t = { s with ram := t.ram, pc := afterBytes 1 s.pc }) ∧
    (∃ t, exec (.movIndImm r v) s = .next t ∧ ramAfter s t (indAddr s r) v ∧
      t = { s with ram := t.ram, pc := afterBytes 2 s.pc })

/-- `psw_write` and `psw_write_hi` bit by bit, SP left alone by the second, and that `MOV PSW,A` uses the first with A and
`RETR` uses the second (10_state.md R40). The nibble that `RETR` gives it, the model's `poppedPsw`, is no word of R40: it
is the pop of 43_control_transfer.md R240 as the spec's decisions D8 and D10 make it (log 21, PRESUMED). What the pop makes
of SP and PC is not said here but in `ReturnsPop`. -/
def Obligations.PswWriteSetsFields : Prop :=
  ∀ s : State,
    (∀ v : Byte, ∃ t, pswWrite v s = t ∧ t.c = v.getLsbD 7 ∧ t.ac = v.getLsbD 6 ∧ t.f0 = v.getLsbD 5 ∧
      (s.params.pswBit4 = .f1 → t.f1 = v.getLsbD 4 ∧ t.rb = s.rb) ∧
      (s.params.pswBit4 = .bs → t.rb = v.getLsbD 4 ∧ t.f1 = s.f1) ∧ t.sp.toNat = v.toNat % 8 ∧
      t = { s with c := t.c, ac := t.ac, f0 := t.f0, f1 := t.f1, rb := t.rb, sp := t.sp }) ∧
    (∀ h : Nibble, ∃ t, pswWriteHi h s = t ∧ t.c = h.getLsbD 3 ∧ t.ac = h.getLsbD 2 ∧ t.f0 = h.getLsbD 1 ∧
      (s.params.pswBit4 = .f1 → t.f1 = h.getLsbD 0 ∧ t.rb = s.rb) ∧
      (s.params.pswBit4 = .bs → t.rb = h.getLsbD 0 ∧ t.f1 = s.f1) ∧
      t = { s with c := t.c, ac := t.ac, f0 := t.f0, f1 := t.f1, rb := t.rb }) ∧
    (∃ t, exec .movPswA s = .next t ∧ t = { pswWrite s.a s with pc := t.pc }) ∧
    (∃ t, exec .retr s = .next t ∧ t = { pswWriteHi (poppedPsw s) s with sp := t.sp, pc := t.pc, iip := t.iip })

/-- `MOV A,PSW` reads C, AC, F0, F1 or RB, the parameter bit 3 (D13) and SP from bit 7 down; after `MOV PSW,A` it gives
back the same A but for bit 3. -/
def Obligations.PswReadBack : Prop :=
  ∀ s : State,
    (∃ t, exec .movAPsw s = .next t ∧ t = { s with a := t.a, pc := afterBytes 1 s.pc } ∧
      t.a.toNat = 128 * s.c.toNat + 64 * s.ac.toNat + 32 * s.f0.toNat +
        16 * (match s.params.pswBit4 with | .f1 => s.f1 | .bs => s.rb).toNat + 8 * s.params.pswBit3Read.toNat +
        s.sp.toNat) ∧
    (∃ u t, exec .movPswA s = .next u ∧ exec .movAPsw u = .next t ∧ u.a = s.a ∧
      (∀ k, k < 8 → k ≠ 3 → t.a.getLsbD k = s.a.getLsbD k) ∧ t.a.getLsbD 3 = s.params.pswBit3Read)

/-- `MOVX @r,A`: the byte of external data memory at all eight bits of the pointer takes A; the host is shown the strobe
and the write, in that order by the model's choice (log 14); the bus latch is no longer driven (D18, D29); internal RAM
and every other byte are kept. -/
def Obligations.MovxWrites : Prop :=
  ∀ (s : State) (r : Ptr), ∃ t, exec (.movxIndA r) s = .next t ∧
    (∀ x, readXram t x = if x = ptrValue s r then some s.a else readXram s x) ∧
    t = { s with xram := t.xram, busDriven := false,
                 shown := .xramWrite (ptrValue s r) s.a :: .writeStrobe :: s.shown, pc := afterBytes 1 s.pc }

/-- `MOVX A,@r`: where the byte has been written, A takes it, and the host is shown a read strobe and the read, in that
order by the model's choice (log 14); where it has not, the instruction faults by name (20_memory.md R82; D27, D29; log 3). -/
def Obligations.MovxReads : Prop :=
  ∀ (s : State) (r : Ptr),
    (∀ v, readXram s (ptrValue s r) = some v →
      exec (.movxAInd r) s =
        .next { s with a := v, busDriven := false, shown := .xramRead (ptrValue s r) :: .readStrobe :: s.shown,
                       pc := afterBytes 1 s.pc }) ∧
    (readXram s (ptrValue s r) = none → exec (.movxAInd r) s = .fault (.uninitialisedXram (ptrValue s r)))

/-- `XCH A,rr`, `XCH A,@r`, `XCHD A,@r`: A and the byte, or their low nibbles, change places, the address computed once;
every other byte and field but PC is kept (pointer reduction: D14). -/
def Obligations.Exchanges : Prop :=
  ∀ (s : State) (n : Reg) (r : Ptr),
    (∃ t, exec (.xchAR n) s = .next t ∧ ramAfter s t (regAddr s n) s.a ∧
      t = { s with a := readReg s n, ram := t.ram, pc := afterBytes 1 s.pc }) ∧
    (∃ t, exec (.xchAInd r) s = .next t ∧ ramAfter s t (indAddr s r) s.a ∧
      t = { s with a := readRam s (indAddr s r), ram := t.ram, pc := afterBytes 1 s.pc }) ∧
    (∃ t, exec (.xchdAInd r) s = .next t ∧
      ramAfter s t (indAddr s r)
        (BitVec.ofNat 8 ((readRam s (indAddr s r)).toNat / 16 * 16 + s.a.toNat % 16)) ∧
      t.a.toNat = s.a.toNat / 16 * 16 + (readRam s (indAddr s r)).toNat % 16 ∧
      t = { s with a := t.a, ram := t.ram, pc := afterBytes 1 s.pc })

/-! Interrupts (the spec's decisions D22 and D33). -/

/-- At a boundary with IIP clear, IE_EXT set and `/INT` low, the external interrupt is entered, whatever the timer
requests: PC and PSW bits 7:4 are pushed, IIP is set, PC is 003H, TIRQ is kept; the timer then counts two cycles (D22,
D33). -/
def Obligations.ExternalInterruptEntry : Prop :=
  ∀ s : State, s.iip = false → s.ieExt = true → (nextPins s).int = false →
    ∃ u, boundary s = tick 2 u ∧ u.pc = 0x003#12 ∧ u.iip = true ∧ u.sp.toNat = (s.sp.toNat + 1) % 8 ∧
      ramAfterPush s u s.pc (pswRead s) ∧
      u = { s with ram := u.ram, sp := u.sp, pc := u.pc, iip := u.iip, inputs := s.inputs.tail, draws := s.draws + 1 }

/-- At a boundary with IIP clear, the timer's request pending and no external request taken, the timer interrupt is
entered: as the external one, at 007H, and TIRQ is cleared. A draw of `/INT` is used up where the external interrupt is
enabled (D22, D33; log 6). -/
def Obligations.TimerInterruptEntry : Prop :=
  ∀ s : State, s.iip = false → s.tirq = true → (s.ieExt = false ∨ (nextPins s).int = true) →
    ∃ u, boundary s = tick 2 u ∧ u.pc = 0x007#12 ∧ u.iip = true ∧ u.tirq = false ∧
      u.sp.toNat = (s.sp.toNat + 1) % 8 ∧ ramAfterPush s u s.pc (pswRead s) ∧
      u = { s with ram := u.ram, sp := u.sp, pc := u.pc, iip := u.iip, tirq := u.tirq,
                   inputs := if s.ieExt then s.inputs.tail else s.inputs,
                   draws := if s.ieExt then s.draws + 1 else s.draws }

/-- No interrupt is entered while one is in progress, nor without a request: the boundary then changes nothing but the
host draw of `/INT`, which is made only where the external interrupt is enabled and could be taken (D22, D33; log 6). -/
def Obligations.BoundaryWithoutInterrupt : Prop :=
  ∀ s : State,
    (s.iip = true → boundary s = s) ∧
    (s.iip = false → s.ieExt = false → s.tirq = false → boundary s = s) ∧
    (s.iip = false → s.ieExt = true → (nextPins s).int = true → s.tirq = false →
      boundary s = { s with inputs := s.inputs.tail, draws := s.draws + 1 })

/-- `RETR` right after an interrupt entry brings back PC, SP, the register bank and every flag; only the entry's two bytes
of RAM and the source's request may differ, and IIP is clear (D8 to D11, D22). -/
def Obligations.RetrUndoesInterruptEntry : Prop :=
  ∀ (src : IrqSource) (s : State), ∃ t, exec .retr (takeInterrupt src s) = .next t ∧
    ramAfterPush s t s.pc (pswRead s) ∧
    t = { s with ram := t.ram, iip := false,
                 tirq := match src with
                   | .external => s.tirq
                   | .timer => false }

/-- While an interrupt is in progress, a step that leaves IIP clear executed `RETR`; no other instruction ends the lockout
(60_exceptions.md R340, R342; D22). -/
def Obligations.OnlyRetrEndsLockout : Prop :=
  ∀ s t : State, s.iip = true → step s = .next t → t.iip = false → fetchInstr s = .ok .retr

/-! Timer (the spec's decision D23). -/

/-- In timer mode, 32 machine cycles make one increment of T and leave the prescaler where it was (D23). -/
def Obligations.TimerModeCounts32Cycles : Prop :=
  ∀ s : State, s.tmode = .timer → (tick 1)^[32] s = incrementT s

/-- `increment_T` goes from FFH to 00H, setting TF and, with IE_TCNT set, TIRQ, else one up, flags kept. In timer mode a
tick of up to two cycles moves the prescaler modulo 32 and increments T exactly when it passes 32; stopped, a tick changes
nothing (D23). -/
def Obligations.TimerTickAndOverflow : Prop :=
  ∀ (s : State) (n : Nat), n ≤ 2 →
    (s.t.toNat = 255 → incrementT s = { s with t := 0x00#8, tf := true, tirq := if s.ieTcnt then true else s.tirq }) ∧
    (s.t.toNat ≠ 255 → ∃ u, incrementT s = u ∧ u.t.toNat = s.t.toNat + 1 ∧ u = { s with t := u.t }) ∧
    (s.tmode = .stopped → tick n s = s) ∧
    (s.tmode = .timer → 32 ≤ s.presc.toNat + n →
      ∃ u, tick n s = incrementT u ∧ u.presc.toNat = s.presc.toNat + n - 32 ∧ u = { s with presc := u.presc }) ∧
    (s.tmode = .timer → s.presc.toNat + n < 32 →
      ∃ u, tick n s = u ∧ u.presc.toNat = s.presc.toNat + n ∧ u = { s with presc := u.presc })

/-- In counter mode each machine cycle samples T1 once, and a fall since the previous sample increments T (log 10); a tick
of no cycles, as after a `STRT CNT` that starts the counter (log 11), samples nothing. -/
def Obligations.CounterModeCountsFalls : Prop :=
  ∀ s : State, s.tmode = .counter →
    (s.t1Prev = true → (nextPins s).t1 = false →
      tick 1 s = incrementT { s with t1Prev := false, inputs := s.inputs.tail, draws := s.draws + 1 }) ∧
    (¬ (s.t1Prev = true ∧ (nextPins s).t1 = false) →
      tick 1 s = { s with t1Prev := (nextPins s).t1, inputs := s.inputs.tail, draws := s.draws + 1 }) ∧
    tick 2 s = tick 1 (tick 1 s) ∧ tick 0 s = s

/-! Reset and the whole machine. -/

/-- What reset leaves, for the fields whose value the spec's table gives (10_state.md R61, its decision D24), in the state
after reset and in the reset of a running part, which keeps every field the table leaves unspecified (R381). -/
def Obligations.ResetLeaves : Prop :=
  (∀ s t : State, (s = State.reset ∨ s = resetEvent t) →
    s.pc = 0x000#12 ∧ s.sp = 0#3 ∧ s.rb = false ∧ s.mbf = false ∧ s.f0 = false ∧ s.f1 = false ∧ s.tf = false ∧
    s.tmode = .stopped ∧ s.ieExt = false ∧ s.ieTcnt = false ∧ s.iip = false ∧ s.tirq = false ∧
    s.latchP1 = 0xFF#8 ∧ s.latchP2 = 0xFF#8 ∧ s.busDriven = false ∧ s.t0Clk = false) ∧
  ∀ t : State, (resetEvent t).a = t.a ∧ (resetEvent t).ram = t.ram ∧ (resetEvent t).c = t.c ∧
    (resetEvent t).ac = t.ac ∧ (resetEvent t).t = t.t ∧ (resetEvent t).presc = t.presc ∧
    (resetEvent t).t1Prev = t.t1Prev ∧
    (resetEvent t).latchBus = t.latchBus ∧ (∀ e, expOf (resetEvent t) e = expOf t e) ∧
    (resetEvent t).xram = t.xram ∧ (resetEvent t).prog = t.prog ∧ (resetEvent t).params = t.params

/-- The state after reset meets the invariant of `StepKeepsWellFormed` (its unspecified fields: log 1 to 4). -/
def Obligations.ResetIsWellFormed : Prop := wellFormedState State.reset = true

/-- Every step keeps the invariant: the three memories stay in canonical form within their sizes, and a pending timer
request has its enable set (the model's form of memory, log 2 to 4; D22). -/
def Obligations.StepKeepsWellFormed : Prop :=
  ∀ s t : State, wellFormedState s = true → step s = .next t → wellFormedState t = true

/-- No step writes program memory or a parameter (20_memory.md R83, R93; D28; log 4, log 8). -/
def Obligations.StepKeepsProgramMemory : Prop :=
  ∀ s t : State, step s = .next t → t.prog = s.prog ∧ t.params = s.params

/-- Every instruction of this hardware completes in every state (60_exceptions.md R330), but for a `MOVX` read of a byte
that nothing has written, which faults (R82, log 3). -/
def Obligations.EveryInstructionCompletes : Prop :=
  ∀ (i : Instr) (s : State), wellFormed i = true →
    (∃ t, exec i s = .next t) ∨
    (∃ r, i = .movxAInd r ∧ readXram s (ptrValue s r) = none ∧
      exec i s = .fault (.uninitialisedXram (ptrValue s r)))

/-- The step is safe exactly where the fetched byte is defined and is no `MOVX` read of an unwritten byte; no step is ever
refused (D20, D27). -/
def Obligations.StepStopsOnlyWhereTheSpecStops : Prop :=
  ∀ s : State,
    (∀ r, step s ≠ .refused r) ∧
    (safeStep s ↔ readProg s s.pc ∉ undefinedOpcodes ∧
      ∀ r, fetchInstr s = .ok (.movxAInd r) → readXram s (ptrValue s r) ≠ none)

/-- A `JMP` to its own address with no interrupt possible and the timer stopped is a fixed point of the step
(70_reset_and_hazards.md R383; D25). The premise on the request is the invariant of `StepKeepsWellFormed`. -/
def Obligations.JumpToSelfIsFixedPoint : Prop :=
  ∀ (s : State) (a : Addr11), fetchInstr s = .ok (.jmp a) → longTarget s a = s.pc →
    (s.iip = true ∨ (s.ieExt = false ∧ s.ieTcnt = false)) → s.tmode = .stopped → requestEnabled s = true →
    step s = .next s
end

