-- ==== Sys2Proof/Laws/State.lean ====
section
/-! SUPPORT. One lemma per field per primitive update of the state, each true by definition, so that no proof unfolds an
update to read a field. -/

namespace Sys2Proof.Machine

variable (s : State)

/-! `jumpTo`. -/

@[simp] theorem jumpTo_params (target : Addr12) : (jumpTo target s).params = s.params := rfl
@[simp] theorem jumpTo_a (target : Addr12) : (jumpTo target s).a = s.a := rfl
@[simp] theorem jumpTo_ram (target : Addr12) : (jumpTo target s).ram = s.ram := rfl
@[simp] theorem jumpTo_rb (target : Addr12) : (jumpTo target s).rb = s.rb := rfl
@[simp] theorem jumpTo_pc (target : Addr12) : (jumpTo target s).pc = target := rfl
@[simp] theorem jumpTo_mbf (target : Addr12) : (jumpTo target s).mbf = s.mbf := rfl
@[simp] theorem jumpTo_c (target : Addr12) : (jumpTo target s).c = s.c := rfl
@[simp] theorem jumpTo_ac (target : Addr12) : (jumpTo target s).ac = s.ac := rfl
@[simp] theorem jumpTo_f0 (target : Addr12) : (jumpTo target s).f0 = s.f0 := rfl
@[simp] theorem jumpTo_f1 (target : Addr12) : (jumpTo target s).f1 = s.f1 := rfl
@[simp] theorem jumpTo_sp (target : Addr12) : (jumpTo target s).sp = s.sp := rfl
@[simp] theorem jumpTo_t (target : Addr12) : (jumpTo target s).t = s.t := rfl
@[simp] theorem jumpTo_tf (target : Addr12) : (jumpTo target s).tf = s.tf := rfl
@[simp] theorem jumpTo_tmode (target : Addr12) : (jumpTo target s).tmode = s.tmode := rfl
@[simp] theorem jumpTo_presc (target : Addr12) : (jumpTo target s).presc = s.presc := rfl
@[simp] theorem jumpTo_t1Prev (target : Addr12) : (jumpTo target s).t1Prev = s.t1Prev := rfl
@[simp] theorem jumpTo_ieExt (target : Addr12) : (jumpTo target s).ieExt = s.ieExt := rfl
@[simp] theorem jumpTo_ieTcnt (target : Addr12) : (jumpTo target s).ieTcnt = s.ieTcnt := rfl
@[simp] theorem jumpTo_iip (target : Addr12) : (jumpTo target s).iip = s.iip := rfl
@[simp] theorem jumpTo_tirq (target : Addr12) : (jumpTo target s).tirq = s.tirq := rfl
@[simp] theorem jumpTo_latchBus (target : Addr12) : (jumpTo target s).latchBus = s.latchBus := rfl
@[simp] theorem jumpTo_latchP1 (target : Addr12) : (jumpTo target s).latchP1 = s.latchP1 := rfl
@[simp] theorem jumpTo_latchP2 (target : Addr12) : (jumpTo target s).latchP2 = s.latchP2 := rfl
@[simp] theorem jumpTo_busDriven (target : Addr12) : (jumpTo target s).busDriven = s.busDriven := rfl
@[simp] theorem jumpTo_exp4 (target : Addr12) : (jumpTo target s).exp4 = s.exp4 := rfl
@[simp] theorem jumpTo_exp5 (target : Addr12) : (jumpTo target s).exp5 = s.exp5 := rfl
@[simp] theorem jumpTo_exp6 (target : Addr12) : (jumpTo target s).exp6 = s.exp6 := rfl
@[simp] theorem jumpTo_exp7 (target : Addr12) : (jumpTo target s).exp7 = s.exp7 := rfl
@[simp] theorem jumpTo_t0Clk (target : Addr12) : (jumpTo target s).t0Clk = s.t0Clk := rfl
@[simp] theorem jumpTo_xram (target : Addr12) : (jumpTo target s).xram = s.xram := rfl
@[simp] theorem jumpTo_prog (target : Addr12) : (jumpTo target s).prog = s.prog := rfl
@[simp] theorem jumpTo_inputs (target : Addr12) : (jumpTo target s).inputs = s.inputs := rfl
@[simp] theorem jumpTo_draws (target : Addr12) : (jumpTo target s).draws = s.draws := rfl
@[simp] theorem jumpTo_shown (target : Addr12) : (jumpTo target s).shown = s.shown := rfl

/-! `advance`. -/

@[simp] theorem advance_params (len : Nat) : (advance len s).params = s.params := rfl
@[simp] theorem advance_a (len : Nat) : (advance len s).a = s.a := rfl
@[simp] theorem advance_ram (len : Nat) : (advance len s).ram = s.ram := rfl
@[simp] theorem advance_rb (len : Nat) : (advance len s).rb = s.rb := rfl
@[simp] theorem advance_pc (len : Nat) : (advance len s).pc = npc len s := rfl
@[simp] theorem advance_mbf (len : Nat) : (advance len s).mbf = s.mbf := rfl
@[simp] theorem advance_c (len : Nat) : (advance len s).c = s.c := rfl
@[simp] theorem advance_ac (len : Nat) : (advance len s).ac = s.ac := rfl
@[simp] theorem advance_f0 (len : Nat) : (advance len s).f0 = s.f0 := rfl
@[simp] theorem advance_f1 (len : Nat) : (advance len s).f1 = s.f1 := rfl
@[simp] theorem advance_sp (len : Nat) : (advance len s).sp = s.sp := rfl
@[simp] theorem advance_t (len : Nat) : (advance len s).t = s.t := rfl
@[simp] theorem advance_tf (len : Nat) : (advance len s).tf = s.tf := rfl
@[simp] theorem advance_tmode (len : Nat) : (advance len s).tmode = s.tmode := rfl
@[simp] theorem advance_presc (len : Nat) : (advance len s).presc = s.presc := rfl
@[simp] theorem advance_t1Prev (len : Nat) : (advance len s).t1Prev = s.t1Prev := rfl
@[simp] theorem advance_ieExt (len : Nat) : (advance len s).ieExt = s.ieExt := rfl
@[simp] theorem advance_ieTcnt (len : Nat) : (advance len s).ieTcnt = s.ieTcnt := rfl
@[simp] theorem advance_iip (len : Nat) : (advance len s).iip = s.iip := rfl
@[simp] theorem advance_tirq (len : Nat) : (advance len s).tirq = s.tirq := rfl
@[simp] theorem advance_latchBus (len : Nat) : (advance len s).latchBus = s.latchBus := rfl
@[simp] theorem advance_latchP1 (len : Nat) : (advance len s).latchP1 = s.latchP1 := rfl
@[simp] theorem advance_latchP2 (len : Nat) : (advance len s).latchP2 = s.latchP2 := rfl
@[simp] theorem advance_busDriven (len : Nat) : (advance len s).busDriven = s.busDriven := rfl
@[simp] theorem advance_exp4 (len : Nat) : (advance len s).exp4 = s.exp4 := rfl
@[simp] theorem advance_exp5 (len : Nat) : (advance len s).exp5 = s.exp5 := rfl
@[simp] theorem advance_exp6 (len : Nat) : (advance len s).exp6 = s.exp6 := rfl
@[simp] theorem advance_exp7 (len : Nat) : (advance len s).exp7 = s.exp7 := rfl
@[simp] theorem advance_t0Clk (len : Nat) : (advance len s).t0Clk = s.t0Clk := rfl
@[simp] theorem advance_xram (len : Nat) : (advance len s).xram = s.xram := rfl
@[simp] theorem advance_prog (len : Nat) : (advance len s).prog = s.prog := rfl
@[simp] theorem advance_inputs (len : Nat) : (advance len s).inputs = s.inputs := rfl
@[simp] theorem advance_draws (len : Nat) : (advance len s).draws = s.draws := rfl
@[simp] theorem advance_shown (len : Nat) : (advance len s).shown = s.shown := rfl

/-! `writeRam`. -/

@[simp] theorem writeRam_params (k : Nat) (v : Byte) : (writeRam k v s).params = s.params := rfl
@[simp] theorem writeRam_a (k : Nat) (v : Byte) : (writeRam k v s).a = s.a := rfl
@[simp] theorem writeRam_ram (k : Nat) (v : Byte) : (writeRam k v s).ram = Memory.write .ram s.ram k v := rfl
@[simp] theorem writeRam_rb (k : Nat) (v : Byte) : (writeRam k v s).rb = s.rb := rfl
@[simp] theorem writeRam_pc (k : Nat) (v : Byte) : (writeRam k v s).pc = s.pc := rfl
@[simp] theorem writeRam_mbf (k : Nat) (v : Byte) : (writeRam k v s).mbf = s.mbf := rfl
@[simp] theorem writeRam_c (k : Nat) (v : Byte) : (writeRam k v s).c = s.c := rfl
@[simp] theorem writeRam_ac (k : Nat) (v : Byte) : (writeRam k v s).ac = s.ac := rfl
@[simp] theorem writeRam_f0 (k : Nat) (v : Byte) : (writeRam k v s).f0 = s.f0 := rfl
@[simp] theorem writeRam_f1 (k : Nat) (v : Byte) : (writeRam k v s).f1 = s.f1 := rfl
@[simp] theorem writeRam_sp (k : Nat) (v : Byte) : (writeRam k v s).sp = s.sp := rfl
@[simp] theorem writeRam_t (k : Nat) (v : Byte) : (writeRam k v s).t = s.t := rfl
@[simp] theorem writeRam_tf (k : Nat) (v : Byte) : (writeRam k v s).tf = s.tf := rfl
@[simp] theorem writeRam_tmode (k : Nat) (v : Byte) : (writeRam k v s).tmode = s.tmode := rfl
@[simp] theorem writeRam_presc (k : Nat) (v : Byte) : (writeRam k v s).presc = s.presc := rfl
@[simp] theorem writeRam_t1Prev (k : Nat) (v : Byte) : (writeRam k v s).t1Prev = s.t1Prev := rfl
@[simp] theorem writeRam_ieExt (k : Nat) (v : Byte) : (writeRam k v s).ieExt = s.ieExt := rfl
@[simp] theorem writeRam_ieTcnt (k : Nat) (v : Byte) : (writeRam k v s).ieTcnt = s.ieTcnt := rfl
@[simp] theorem writeRam_iip (k : Nat) (v : Byte) : (writeRam k v s).iip = s.iip := rfl
@[simp] theorem writeRam_tirq (k : Nat) (v : Byte) : (writeRam k v s).tirq = s.tirq := rfl
@[simp] theorem writeRam_latchBus (k : Nat) (v : Byte) : (writeRam k v s).latchBus = s.latchBus := rfl
@[simp] theorem writeRam_latchP1 (k : Nat) (v : Byte) : (writeRam k v s).latchP1 = s.latchP1 := rfl
@[simp] theorem writeRam_latchP2 (k : Nat) (v : Byte) : (writeRam k v s).latchP2 = s.latchP2 := rfl
@[simp] theorem writeRam_busDriven (k : Nat) (v : Byte) : (writeRam k v s).busDriven = s.busDriven := rfl
@[simp] theorem writeRam_exp4 (k : Nat) (v : Byte) : (writeRam k v s).exp4 = s.exp4 := rfl
@[simp] theorem writeRam_exp5 (k : Nat) (v : Byte) : (writeRam k v s).exp5 = s.exp5 := rfl
@[simp] theorem writeRam_exp6 (k : Nat) (v : Byte) : (writeRam k v s).exp6 = s.exp6 := rfl
@[simp] theorem writeRam_exp7 (k : Nat) (v : Byte) : (writeRam k v s).exp7 = s.exp7 := rfl
@[simp] theorem writeRam_t0Clk (k : Nat) (v : Byte) : (writeRam k v s).t0Clk = s.t0Clk := rfl
@[simp] theorem writeRam_xram (k : Nat) (v : Byte) : (writeRam k v s).xram = s.xram := rfl
@[simp] theorem writeRam_prog (k : Nat) (v : Byte) : (writeRam k v s).prog = s.prog := rfl
@[simp] theorem writeRam_inputs (k : Nat) (v : Byte) : (writeRam k v s).inputs = s.inputs := rfl
@[simp] theorem writeRam_draws (k : Nat) (v : Byte) : (writeRam k v s).draws = s.draws := rfl
@[simp] theorem writeRam_shown (k : Nat) (v : Byte) : (writeRam k v s).shown = s.shown := rfl

/-! `writeReg`. -/

@[simp] theorem writeReg_params (n : Reg) (v : Byte) : (writeReg n v s).params = s.params := rfl
@[simp] theorem writeReg_a (n : Reg) (v : Byte) : (writeReg n v s).a = s.a := rfl
@[simp] theorem writeReg_ram (n : Reg) (v : Byte) : (writeReg n v s).ram = Memory.write .ram s.ram (regAddr s n) v := rfl
@[simp] theorem writeReg_rb (n : Reg) (v : Byte) : (writeReg n v s).rb = s.rb := rfl
@[simp] theorem writeReg_pc (n : Reg) (v : Byte) : (writeReg n v s).pc = s.pc := rfl
@[simp] theorem writeReg_mbf (n : Reg) (v : Byte) : (writeReg n v s).mbf = s.mbf := rfl
@[simp] theorem writeReg_c (n : Reg) (v : Byte) : (writeReg n v s).c = s.c := rfl
@[simp] theorem writeReg_ac (n : Reg) (v : Byte) : (writeReg n v s).ac = s.ac := rfl
@[simp] theorem writeReg_f0 (n : Reg) (v : Byte) : (writeReg n v s).f0 = s.f0 := rfl
@[simp] theorem writeReg_f1 (n : Reg) (v : Byte) : (writeReg n v s).f1 = s.f1 := rfl
@[simp] theorem writeReg_sp (n : Reg) (v : Byte) : (writeReg n v s).sp = s.sp := rfl
@[simp] theorem writeReg_t (n : Reg) (v : Byte) : (writeReg n v s).t = s.t := rfl
@[simp] theorem writeReg_tf (n : Reg) (v : Byte) : (writeReg n v s).tf = s.tf := rfl
@[simp] theorem writeReg_tmode (n : Reg) (v : Byte) : (writeReg n v s).tmode = s.tmode := rfl
@[simp] theorem writeReg_presc (n : Reg) (v : Byte) : (writeReg n v s).presc = s.presc := rfl
@[simp] theorem writeReg_t1Prev (n : Reg) (v : Byte) : (writeReg n v s).t1Prev = s.t1Prev := rfl
@[simp] theorem writeReg_ieExt (n : Reg) (v : Byte) : (writeReg n v s).ieExt = s.ieExt := rfl
@[simp] theorem writeReg_ieTcnt (n : Reg) (v : Byte) : (writeReg n v s).ieTcnt = s.ieTcnt := rfl
@[simp] theorem writeReg_iip (n : Reg) (v : Byte) : (writeReg n v s).iip = s.iip := rfl
@[simp] theorem writeReg_tirq (n : Reg) (v : Byte) : (writeReg n v s).tirq = s.tirq := rfl
@[simp] theorem writeReg_latchBus (n : Reg) (v : Byte) : (writeReg n v s).latchBus = s.latchBus := rfl
@[simp] theorem writeReg_latchP1 (n : Reg) (v : Byte) : (writeReg n v s).latchP1 = s.latchP1 := rfl
@[simp] theorem writeReg_latchP2 (n : Reg) (v : Byte) : (writeReg n v s).latchP2 = s.latchP2 := rfl
@[simp] theorem writeReg_busDriven (n : Reg) (v : Byte) : (writeReg n v s).busDriven = s.busDriven := rfl
@[simp] theorem writeReg_exp4 (n : Reg) (v : Byte) : (writeReg n v s).exp4 = s.exp4 := rfl
@[simp] theorem writeReg_exp5 (n : Reg) (v : Byte) : (writeReg n v s).exp5 = s.exp5 := rfl
@[simp] theorem writeReg_exp6 (n : Reg) (v : Byte) : (writeReg n v s).exp6 = s.exp6 := rfl
@[simp] theorem writeReg_exp7 (n : Reg) (v : Byte) : (writeReg n v s).exp7 = s.exp7 := rfl
@[simp] theorem writeReg_t0Clk (n : Reg) (v : Byte) : (writeReg n v s).t0Clk = s.t0Clk := rfl
@[simp] theorem writeReg_xram (n : Reg) (v : Byte) : (writeReg n v s).xram = s.xram := rfl
@[simp] theorem writeReg_prog (n : Reg) (v : Byte) : (writeReg n v s).prog = s.prog := rfl
@[simp] theorem writeReg_inputs (n : Reg) (v : Byte) : (writeReg n v s).inputs = s.inputs := rfl
@[simp] theorem writeReg_draws (n : Reg) (v : Byte) : (writeReg n v s).draws = s.draws := rfl
@[simp] theorem writeReg_shown (n : Reg) (v : Byte) : (writeReg n v s).shown = s.shown := rfl

/-! `writeXram`. -/

@[simp] theorem writeXram_params (k v : Byte) : (writeXram k v s).params = s.params := rfl
@[simp] theorem writeXram_a (k v : Byte) : (writeXram k v s).a = s.a := rfl
@[simp] theorem writeXram_ram (k v : Byte) : (writeXram k v s).ram = s.ram := rfl
@[simp] theorem writeXram_rb (k v : Byte) : (writeXram k v s).rb = s.rb := rfl
@[simp] theorem writeXram_pc (k v : Byte) : (writeXram k v s).pc = s.pc := rfl
@[simp] theorem writeXram_mbf (k v : Byte) : (writeXram k v s).mbf = s.mbf := rfl
@[simp] theorem writeXram_c (k v : Byte) : (writeXram k v s).c = s.c := rfl
@[simp] theorem writeXram_ac (k v : Byte) : (writeXram k v s).ac = s.ac := rfl
@[simp] theorem writeXram_f0 (k v : Byte) : (writeXram k v s).f0 = s.f0 := rfl
@[simp] theorem writeXram_f1 (k v : Byte) : (writeXram k v s).f1 = s.f1 := rfl
@[simp] theorem writeXram_sp (k v : Byte) : (writeXram k v s).sp = s.sp := rfl
@[simp] theorem writeXram_t (k v : Byte) : (writeXram k v s).t = s.t := rfl
@[simp] theorem writeXram_tf (k v : Byte) : (writeXram k v s).tf = s.tf := rfl
@[simp] theorem writeXram_tmode (k v : Byte) : (writeXram k v s).tmode = s.tmode := rfl
@[simp] theorem writeXram_presc (k v : Byte) : (writeXram k v s).presc = s.presc := rfl
@[simp] theorem writeXram_t1Prev (k v : Byte) : (writeXram k v s).t1Prev = s.t1Prev := rfl
@[simp] theorem writeXram_ieExt (k v : Byte) : (writeXram k v s).ieExt = s.ieExt := rfl
@[simp] theorem writeXram_ieTcnt (k v : Byte) : (writeXram k v s).ieTcnt = s.ieTcnt := rfl
@[simp] theorem writeXram_iip (k v : Byte) : (writeXram k v s).iip = s.iip := rfl
@[simp] theorem writeXram_tirq (k v : Byte) : (writeXram k v s).tirq = s.tirq := rfl
@[simp] theorem writeXram_latchBus (k v : Byte) : (writeXram k v s).latchBus = s.latchBus := rfl
@[simp] theorem writeXram_latchP1 (k v : Byte) : (writeXram k v s).latchP1 = s.latchP1 := rfl
@[simp] theorem writeXram_latchP2 (k v : Byte) : (writeXram k v s).latchP2 = s.latchP2 := rfl
@[simp] theorem writeXram_busDriven (k v : Byte) : (writeXram k v s).busDriven = s.busDriven := rfl
@[simp] theorem writeXram_exp4 (k v : Byte) : (writeXram k v s).exp4 = s.exp4 := rfl
@[simp] theorem writeXram_exp5 (k v : Byte) : (writeXram k v s).exp5 = s.exp5 := rfl
@[simp] theorem writeXram_exp6 (k v : Byte) : (writeXram k v s).exp6 = s.exp6 := rfl
@[simp] theorem writeXram_exp7 (k v : Byte) : (writeXram k v s).exp7 = s.exp7 := rfl
@[simp] theorem writeXram_t0Clk (k v : Byte) : (writeXram k v s).t0Clk = s.t0Clk := rfl
@[simp] theorem writeXram_xram (k v : Byte) : (writeXram k v s).xram = Memory.write .xram s.xram k.toNat v := rfl
@[simp] theorem writeXram_prog (k v : Byte) : (writeXram k v s).prog = s.prog := rfl
@[simp] theorem writeXram_inputs (k v : Byte) : (writeXram k v s).inputs = s.inputs := rfl
@[simp] theorem writeXram_draws (k v : Byte) : (writeXram k v s).draws = s.draws := rfl
@[simp] theorem writeXram_shown (k v : Byte) : (writeXram k v s).shown = s.shown := rfl

/-! `placeProg`. -/

@[simp] theorem placeProg_params (k : Addr12) (v : Byte) : (placeProg k v s).params = s.params := rfl
@[simp] theorem placeProg_a (k : Addr12) (v : Byte) : (placeProg k v s).a = s.a := rfl
@[simp] theorem placeProg_ram (k : Addr12) (v : Byte) : (placeProg k v s).ram = s.ram := rfl
@[simp] theorem placeProg_rb (k : Addr12) (v : Byte) : (placeProg k v s).rb = s.rb := rfl
@[simp] theorem placeProg_pc (k : Addr12) (v : Byte) : (placeProg k v s).pc = s.pc := rfl
@[simp] theorem placeProg_mbf (k : Addr12) (v : Byte) : (placeProg k v s).mbf = s.mbf := rfl
@[simp] theorem placeProg_c (k : Addr12) (v : Byte) : (placeProg k v s).c = s.c := rfl
@[simp] theorem placeProg_ac (k : Addr12) (v : Byte) : (placeProg k v s).ac = s.ac := rfl
@[simp] theorem placeProg_f0 (k : Addr12) (v : Byte) : (placeProg k v s).f0 = s.f0 := rfl
@[simp] theorem placeProg_f1 (k : Addr12) (v : Byte) : (placeProg k v s).f1 = s.f1 := rfl
@[simp] theorem placeProg_sp (k : Addr12) (v : Byte) : (placeProg k v s).sp = s.sp := rfl
@[simp] theorem placeProg_t (k : Addr12) (v : Byte) : (placeProg k v s).t = s.t := rfl
@[simp] theorem placeProg_tf (k : Addr12) (v : Byte) : (placeProg k v s).tf = s.tf := rfl
@[simp] theorem placeProg_tmode (k : Addr12) (v : Byte) : (placeProg k v s).tmode = s.tmode := rfl
@[simp] theorem placeProg_presc (k : Addr12) (v : Byte) : (placeProg k v s).presc = s.presc := rfl
@[simp] theorem placeProg_t1Prev (k : Addr12) (v : Byte) : (placeProg k v s).t1Prev = s.t1Prev := rfl
@[simp] theorem placeProg_ieExt (k : Addr12) (v : Byte) : (placeProg k v s).ieExt = s.ieExt := rfl
@[simp] theorem placeProg_ieTcnt (k : Addr12) (v : Byte) : (placeProg k v s).ieTcnt = s.ieTcnt := rfl
@[simp] theorem placeProg_iip (k : Addr12) (v : Byte) : (placeProg k v s).iip = s.iip := rfl
@[simp] theorem placeProg_tirq (k : Addr12) (v : Byte) : (placeProg k v s).tirq = s.tirq := rfl
@[simp] theorem placeProg_latchBus (k : Addr12) (v : Byte) : (placeProg k v s).latchBus = s.latchBus := rfl
@[simp] theorem placeProg_latchP1 (k : Addr12) (v : Byte) : (placeProg k v s).latchP1 = s.latchP1 := rfl
@[simp] theorem placeProg_latchP2 (k : Addr12) (v : Byte) : (placeProg k v s).latchP2 = s.latchP2 := rfl
@[simp] theorem placeProg_busDriven (k : Addr12) (v : Byte) : (placeProg k v s).busDriven = s.busDriven := rfl
@[simp] theorem placeProg_exp4 (k : Addr12) (v : Byte) : (placeProg k v s).exp4 = s.exp4 := rfl
@[simp] theorem placeProg_exp5 (k : Addr12) (v : Byte) : (placeProg k v s).exp5 = s.exp5 := rfl
@[simp] theorem placeProg_exp6 (k : Addr12) (v : Byte) : (placeProg k v s).exp6 = s.exp6 := rfl
@[simp] theorem placeProg_exp7 (k : Addr12) (v : Byte) : (placeProg k v s).exp7 = s.exp7 := rfl
@[simp] theorem placeProg_t0Clk (k : Addr12) (v : Byte) : (placeProg k v s).t0Clk = s.t0Clk := rfl
@[simp] theorem placeProg_xram (k : Addr12) (v : Byte) : (placeProg k v s).xram = s.xram := rfl
@[simp] theorem placeProg_prog (k : Addr12) (v : Byte) : (placeProg k v s).prog = Memory.write .prog s.prog k.toNat v := rfl
@[simp] theorem placeProg_inputs (k : Addr12) (v : Byte) : (placeProg k v s).inputs = s.inputs := rfl
@[simp] theorem placeProg_draws (k : Addr12) (v : Byte) : (placeProg k v s).draws = s.draws := rfl
@[simp] theorem placeProg_shown (k : Addr12) (v : Byte) : (placeProg k v s).shown = s.shown := rfl

/-! `usePins`. -/

@[simp] theorem usePins_params : (usePins s).params = s.params := rfl
@[simp] theorem usePins_a : (usePins s).a = s.a := rfl
@[simp] theorem usePins_ram : (usePins s).ram = s.ram := rfl
@[simp] theorem usePins_rb : (usePins s).rb = s.rb := rfl
@[simp] theorem usePins_pc : (usePins s).pc = s.pc := rfl
@[simp] theorem usePins_mbf : (usePins s).mbf = s.mbf := rfl
@[simp] theorem usePins_c : (usePins s).c = s.c := rfl
@[simp] theorem usePins_ac : (usePins s).ac = s.ac := rfl
@[simp] theorem usePins_f0 : (usePins s).f0 = s.f0 := rfl
@[simp] theorem usePins_f1 : (usePins s).f1 = s.f1 := rfl
@[simp] theorem usePins_sp : (usePins s).sp = s.sp := rfl
@[simp] theorem usePins_t : (usePins s).t = s.t := rfl
@[simp] theorem usePins_tf : (usePins s).tf = s.tf := rfl
@[simp] theorem usePins_tmode : (usePins s).tmode = s.tmode := rfl
@[simp] theorem usePins_presc : (usePins s).presc = s.presc := rfl
@[simp] theorem usePins_t1Prev : (usePins s).t1Prev = s.t1Prev := rfl
@[simp] theorem usePins_ieExt : (usePins s).ieExt = s.ieExt := rfl
@[simp] theorem usePins_ieTcnt : (usePins s).ieTcnt = s.ieTcnt := rfl
@[simp] theorem usePins_iip : (usePins s).iip = s.iip := rfl
@[simp] theorem usePins_tirq : (usePins s).tirq = s.tirq := rfl
@[simp] theorem usePins_latchBus : (usePins s).latchBus = s.latchBus := rfl
@[simp] theorem usePins_latchP1 : (usePins s).latchP1 = s.latchP1 := rfl
@[simp] theorem usePins_latchP2 : (usePins s).latchP2 = s.latchP2 := rfl
@[simp] theorem usePins_busDriven : (usePins s).busDriven = s.busDriven := rfl
@[simp] theorem usePins_exp4 : (usePins s).exp4 = s.exp4 := rfl
@[simp] theorem usePins_exp5 : (usePins s).exp5 = s.exp5 := rfl
@[simp] theorem usePins_exp6 : (usePins s).exp6 = s.exp6 := rfl
@[simp] theorem usePins_exp7 : (usePins s).exp7 = s.exp7 := rfl
@[simp] theorem usePins_t0Clk : (usePins s).t0Clk = s.t0Clk := rfl
@[simp] theorem usePins_xram : (usePins s).xram = s.xram := rfl
@[simp] theorem usePins_prog : (usePins s).prog = s.prog := rfl
@[simp] theorem usePins_inputs : (usePins s).inputs = s.inputs.tail := rfl
@[simp] theorem usePins_draws : (usePins s).draws = s.draws + 1 := rfl
@[simp] theorem usePins_shown : (usePins s).shown = s.shown := rfl

/-! `emit`. -/

@[simp] theorem emit_params (e : HostEvent) : (emit e s).params = s.params := rfl
@[simp] theorem emit_a (e : HostEvent) : (emit e s).a = s.a := rfl
@[simp] theorem emit_ram (e : HostEvent) : (emit e s).ram = s.ram := rfl
@[simp] theorem emit_rb (e : HostEvent) : (emit e s).rb = s.rb := rfl
@[simp] theorem emit_pc (e : HostEvent) : (emit e s).pc = s.pc := rfl
@[simp] theorem emit_mbf (e : HostEvent) : (emit e s).mbf = s.mbf := rfl
@[simp] theorem emit_c (e : HostEvent) : (emit e s).c = s.c := rfl
@[simp] theorem emit_ac (e : HostEvent) : (emit e s).ac = s.ac := rfl
@[simp] theorem emit_f0 (e : HostEvent) : (emit e s).f0 = s.f0 := rfl
@[simp] theorem emit_f1 (e : HostEvent) : (emit e s).f1 = s.f1 := rfl
@[simp] theorem emit_sp (e : HostEvent) : (emit e s).sp = s.sp := rfl
@[simp] theorem emit_t (e : HostEvent) : (emit e s).t = s.t := rfl
@[simp] theorem emit_tf (e : HostEvent) : (emit e s).tf = s.tf := rfl
@[simp] theorem emit_tmode (e : HostEvent) : (emit e s).tmode = s.tmode := rfl
@[simp] theorem emit_presc (e : HostEvent) : (emit e s).presc = s.presc := rfl
@[simp] theorem emit_t1Prev (e : HostEvent) : (emit e s).t1Prev = s.t1Prev := rfl
@[simp] theorem emit_ieExt (e : HostEvent) : (emit e s).ieExt = s.ieExt := rfl
@[simp] theorem emit_ieTcnt (e : HostEvent) : (emit e s).ieTcnt = s.ieTcnt := rfl
@[simp] theorem emit_iip (e : HostEvent) : (emit e s).iip = s.iip := rfl
@[simp] theorem emit_tirq (e : HostEvent) : (emit e s).tirq = s.tirq := rfl
@[simp] theorem emit_latchBus (e : HostEvent) : (emit e s).latchBus = s.latchBus := rfl
@[simp] theorem emit_latchP1 (e : HostEvent) : (emit e s).latchP1 = s.latchP1 := rfl
@[simp] theorem emit_latchP2 (e : HostEvent) : (emit e s).latchP2 = s.latchP2 := rfl
@[simp] theorem emit_busDriven (e : HostEvent) : (emit e s).busDriven = s.busDriven := rfl
@[simp] theorem emit_exp4 (e : HostEvent) : (emit e s).exp4 = s.exp4 := rfl
@[simp] theorem emit_exp5 (e : HostEvent) : (emit e s).exp5 = s.exp5 := rfl
@[simp] theorem emit_exp6 (e : HostEvent) : (emit e s).exp6 = s.exp6 := rfl
@[simp] theorem emit_exp7 (e : HostEvent) : (emit e s).exp7 = s.exp7 := rfl
@[simp] theorem emit_t0Clk (e : HostEvent) : (emit e s).t0Clk = s.t0Clk := rfl
@[simp] theorem emit_xram (e : HostEvent) : (emit e s).xram = s.xram := rfl
@[simp] theorem emit_prog (e : HostEvent) : (emit e s).prog = s.prog := rfl
@[simp] theorem emit_inputs (e : HostEvent) : (emit e s).inputs = s.inputs := rfl
@[simp] theorem emit_draws (e : HostEvent) : (emit e s).draws = s.draws := rfl
@[simp] theorem emit_shown (e : HostEvent) : (emit e s).shown = e :: s.shown := rfl

/-! `releaseBus`. -/

@[simp] theorem releaseBus_params : (releaseBus s).params = s.params := rfl
@[simp] theorem releaseBus_a : (releaseBus s).a = s.a := rfl
@[simp] theorem releaseBus_ram : (releaseBus s).ram = s.ram := rfl
@[simp] theorem releaseBus_rb : (releaseBus s).rb = s.rb := rfl
@[simp] theorem releaseBus_pc : (releaseBus s).pc = s.pc := rfl
@[simp] theorem releaseBus_mbf : (releaseBus s).mbf = s.mbf := rfl
@[simp] theorem releaseBus_c : (releaseBus s).c = s.c := rfl
@[simp] theorem releaseBus_ac : (releaseBus s).ac = s.ac := rfl
@[simp] theorem releaseBus_f0 : (releaseBus s).f0 = s.f0 := rfl
@[simp] theorem releaseBus_f1 : (releaseBus s).f1 = s.f1 := rfl
@[simp] theorem releaseBus_sp : (releaseBus s).sp = s.sp := rfl
@[simp] theorem releaseBus_t : (releaseBus s).t = s.t := rfl
@[simp] theorem releaseBus_tf : (releaseBus s).tf = s.tf := rfl
@[simp] theorem releaseBus_tmode : (releaseBus s).tmode = s.tmode := rfl
@[simp] theorem releaseBus_presc : (releaseBus s).presc = s.presc := rfl
@[simp] theorem releaseBus_t1Prev : (releaseBus s).t1Prev = s.t1Prev := rfl
@[simp] theorem releaseBus_ieExt : (releaseBus s).ieExt = s.ieExt := rfl
@[simp] theorem releaseBus_ieTcnt : (releaseBus s).ieTcnt = s.ieTcnt := rfl
@[simp] theorem releaseBus_iip : (releaseBus s).iip = s.iip := rfl
@[simp] theorem releaseBus_tirq : (releaseBus s).tirq = s.tirq := rfl
@[simp] theorem releaseBus_latchBus : (releaseBus s).latchBus = s.latchBus := rfl
@[simp] theorem releaseBus_latchP1 : (releaseBus s).latchP1 = s.latchP1 := rfl
@[simp] theorem releaseBus_latchP2 : (releaseBus s).latchP2 = s.latchP2 := rfl
@[simp] theorem releaseBus_busDriven : (releaseBus s).busDriven = false := rfl
@[simp] theorem releaseBus_exp4 : (releaseBus s).exp4 = s.exp4 := rfl
@[simp] theorem releaseBus_exp5 : (releaseBus s).exp5 = s.exp5 := rfl
@[simp] theorem releaseBus_exp6 : (releaseBus s).exp6 = s.exp6 := rfl
@[simp] theorem releaseBus_exp7 : (releaseBus s).exp7 = s.exp7 := rfl
@[simp] theorem releaseBus_t0Clk : (releaseBus s).t0Clk = s.t0Clk := rfl
@[simp] theorem releaseBus_xram : (releaseBus s).xram = s.xram := rfl
@[simp] theorem releaseBus_prog : (releaseBus s).prog = s.prog := rfl
@[simp] theorem releaseBus_inputs : (releaseBus s).inputs = s.inputs := rfl
@[simp] theorem releaseBus_draws : (releaseBus s).draws = s.draws := rfl
@[simp] theorem releaseBus_shown : (releaseBus s).shown = s.shown := rfl

/-! `xramReadCycle`. -/

@[simp] theorem xramReadCycle_params (k : Byte) : (xramReadCycle k s).params = s.params := rfl
@[simp] theorem xramReadCycle_a (k : Byte) : (xramReadCycle k s).a = s.a := rfl
@[simp] theorem xramReadCycle_ram (k : Byte) : (xramReadCycle k s).ram = s.ram := rfl
@[simp] theorem xramReadCycle_rb (k : Byte) : (xramReadCycle k s).rb = s.rb := rfl
@[simp] theorem xramReadCycle_pc (k : Byte) : (xramReadCycle k s).pc = s.pc := rfl
@[simp] theorem xramReadCycle_mbf (k : Byte) : (xramReadCycle k s).mbf = s.mbf := rfl
@[simp] theorem xramReadCycle_c (k : Byte) : (xramReadCycle k s).c = s.c := rfl
@[simp] theorem xramReadCycle_ac (k : Byte) : (xramReadCycle k s).ac = s.ac := rfl
@[simp] theorem xramReadCycle_f0 (k : Byte) : (xramReadCycle k s).f0 = s.f0 := rfl
@[simp] theorem xramReadCycle_f1 (k : Byte) : (xramReadCycle k s).f1 = s.f1 := rfl
@[simp] theorem xramReadCycle_sp (k : Byte) : (xramReadCycle k s).sp = s.sp := rfl
@[simp] theorem xramReadCycle_t (k : Byte) : (xramReadCycle k s).t = s.t := rfl
@[simp] theorem xramReadCycle_tf (k : Byte) : (xramReadCycle k s).tf = s.tf := rfl
@[simp] theorem xramReadCycle_tmode (k : Byte) : (xramReadCycle k s).tmode = s.tmode := rfl
@[simp] theorem xramReadCycle_presc (k : Byte) : (xramReadCycle k s).presc = s.presc := rfl
@[simp] theorem xramReadCycle_t1Prev (k : Byte) : (xramReadCycle k s).t1Prev = s.t1Prev := rfl
@[simp] theorem xramReadCycle_ieExt (k : Byte) : (xramReadCycle k s).ieExt = s.ieExt := rfl
@[simp] theorem xramReadCycle_ieTcnt (k : Byte) : (xramReadCycle k s).ieTcnt = s.ieTcnt := rfl
@[simp] theorem xramReadCycle_iip (k : Byte) : (xramReadCycle k s).iip = s.iip := rfl
@[simp] theorem xramReadCycle_tirq (k : Byte) : (xramReadCycle k s).tirq = s.tirq := rfl
@[simp] theorem xramReadCycle_latchBus (k : Byte) : (xramReadCycle k s).latchBus = s.latchBus := rfl
@[simp] theorem xramReadCycle_latchP1 (k : Byte) : (xramReadCycle k s).latchP1 = s.latchP1 := rfl
@[simp] theorem xramReadCycle_latchP2 (k : Byte) : (xramReadCycle k s).latchP2 = s.latchP2 := rfl
@[simp] theorem xramReadCycle_busDriven (k : Byte) : (xramReadCycle k s).busDriven = false := rfl
@[simp] theorem xramReadCycle_exp4 (k : Byte) : (xramReadCycle k s).exp4 = s.exp4 := rfl
@[simp] theorem xramReadCycle_exp5 (k : Byte) : (xramReadCycle k s).exp5 = s.exp5 := rfl
@[simp] theorem xramReadCycle_exp6 (k : Byte) : (xramReadCycle k s).exp6 = s.exp6 := rfl
@[simp] theorem xramReadCycle_exp7 (k : Byte) : (xramReadCycle k s).exp7 = s.exp7 := rfl
@[simp] theorem xramReadCycle_t0Clk (k : Byte) : (xramReadCycle k s).t0Clk = s.t0Clk := rfl
@[simp] theorem xramReadCycle_xram (k : Byte) : (xramReadCycle k s).xram = s.xram := rfl
@[simp] theorem xramReadCycle_prog (k : Byte) : (xramReadCycle k s).prog = s.prog := rfl
@[simp] theorem xramReadCycle_inputs (k : Byte) : (xramReadCycle k s).inputs = s.inputs := rfl
@[simp] theorem xramReadCycle_draws (k : Byte) : (xramReadCycle k s).draws = s.draws := rfl
@[simp] theorem xramReadCycle_shown (k : Byte) : (xramReadCycle k s).shown = .xramRead k :: .readStrobe :: s.shown := rfl

/-! `xramWriteCycle`. -/

@[simp] theorem xramWriteCycle_params (k v : Byte) : (xramWriteCycle k v s).params = s.params := rfl
@[simp] theorem xramWriteCycle_a (k v : Byte) : (xramWriteCycle k v s).a = s.a := rfl
@[simp] theorem xramWriteCycle_ram (k v : Byte) : (xramWriteCycle k v s).ram = s.ram := rfl
@[simp] theorem xramWriteCycle_rb (k v : Byte) : (xramWriteCycle k v s).rb = s.rb := rfl
@[simp] theorem xramWriteCycle_pc (k v : Byte) : (xramWriteCycle k v s).pc = s.pc := rfl
@[simp] theorem xramWriteCycle_mbf (k v : Byte) : (xramWriteCycle k v s).mbf = s.mbf := rfl
@[simp] theorem xramWriteCycle_c (k v : Byte) : (xramWriteCycle k v s).c = s.c := rfl
@[simp] theorem xramWriteCycle_ac (k v : Byte) : (xramWriteCycle k v s).ac = s.ac := rfl
@[simp] theorem xramWriteCycle_f0 (k v : Byte) : (xramWriteCycle k v s).f0 = s.f0 := rfl
@[simp] theorem xramWriteCycle_f1 (k v : Byte) : (xramWriteCycle k v s).f1 = s.f1 := rfl
@[simp] theorem xramWriteCycle_sp (k v : Byte) : (xramWriteCycle k v s).sp = s.sp := rfl
@[simp] theorem xramWriteCycle_t (k v : Byte) : (xramWriteCycle k v s).t = s.t := rfl
@[simp] theorem xramWriteCycle_tf (k v : Byte) : (xramWriteCycle k v s).tf = s.tf := rfl
@[simp] theorem xramWriteCycle_tmode (k v : Byte) : (xramWriteCycle k v s).tmode = s.tmode := rfl
@[simp] theorem xramWriteCycle_presc (k v : Byte) : (xramWriteCycle k v s).presc = s.presc := rfl
@[simp] theorem xramWriteCycle_t1Prev (k v : Byte) : (xramWriteCycle k v s).t1Prev = s.t1Prev := rfl
@[simp] theorem xramWriteCycle_ieExt (k v : Byte) : (xramWriteCycle k v s).ieExt = s.ieExt := rfl
@[simp] theorem xramWriteCycle_ieTcnt (k v : Byte) : (xramWriteCycle k v s).ieTcnt = s.ieTcnt := rfl
@[simp] theorem xramWriteCycle_iip (k v : Byte) : (xramWriteCycle k v s).iip = s.iip := rfl
@[simp] theorem xramWriteCycle_tirq (k v : Byte) : (xramWriteCycle k v s).tirq = s.tirq := rfl
@[simp] theorem xramWriteCycle_latchBus (k v : Byte) : (xramWriteCycle k v s).latchBus = s.latchBus := rfl
@[simp] theorem xramWriteCycle_latchP1 (k v : Byte) : (xramWriteCycle k v s).latchP1 = s.latchP1 := rfl
@[simp] theorem xramWriteCycle_latchP2 (k v : Byte) : (xramWriteCycle k v s).latchP2 = s.latchP2 := rfl
@[simp] theorem xramWriteCycle_busDriven (k v : Byte) : (xramWriteCycle k v s).busDriven = false := rfl
@[simp] theorem xramWriteCycle_exp4 (k v : Byte) : (xramWriteCycle k v s).exp4 = s.exp4 := rfl
@[simp] theorem xramWriteCycle_exp5 (k v : Byte) : (xramWriteCycle k v s).exp5 = s.exp5 := rfl
@[simp] theorem xramWriteCycle_exp6 (k v : Byte) : (xramWriteCycle k v s).exp6 = s.exp6 := rfl
@[simp] theorem xramWriteCycle_exp7 (k v : Byte) : (xramWriteCycle k v s).exp7 = s.exp7 := rfl
@[simp] theorem xramWriteCycle_t0Clk (k v : Byte) : (xramWriteCycle k v s).t0Clk = s.t0Clk := rfl
@[simp] theorem xramWriteCycle_xram (k v : Byte) : (xramWriteCycle k v s).xram = Memory.write .xram s.xram k.toNat v := rfl
@[simp] theorem xramWriteCycle_prog (k v : Byte) : (xramWriteCycle k v s).prog = s.prog := rfl
@[simp] theorem xramWriteCycle_inputs (k v : Byte) : (xramWriteCycle k v s).inputs = s.inputs := rfl
@[simp] theorem xramWriteCycle_draws (k v : Byte) : (xramWriteCycle k v s).draws = s.draws := rfl
@[simp] theorem xramWriteCycle_shown (k v : Byte) : (xramWriteCycle k v s).shown = .xramWrite k v :: .writeStrobe :: s.shown := rfl

/-! `busWrite`. -/

@[simp] theorem busWrite_params (v : Byte) : (busWrite v s).params = s.params := rfl
@[simp] theorem busWrite_a (v : Byte) : (busWrite v s).a = s.a := rfl
@[simp] theorem busWrite_ram (v : Byte) : (busWrite v s).ram = s.ram := rfl
@[simp] theorem busWrite_rb (v : Byte) : (busWrite v s).rb = s.rb := rfl
@[simp] theorem busWrite_pc (v : Byte) : (busWrite v s).pc = s.pc := rfl
@[simp] theorem busWrite_mbf (v : Byte) : (busWrite v s).mbf = s.mbf := rfl
@[simp] theorem busWrite_c (v : Byte) : (busWrite v s).c = s.c := rfl
@[simp] theorem busWrite_ac (v : Byte) : (busWrite v s).ac = s.ac := rfl
@[simp] theorem busWrite_f0 (v : Byte) : (busWrite v s).f0 = s.f0 := rfl
@[simp] theorem busWrite_f1 (v : Byte) : (busWrite v s).f1 = s.f1 := rfl
@[simp] theorem busWrite_sp (v : Byte) : (busWrite v s).sp = s.sp := rfl
@[simp] theorem busWrite_t (v : Byte) : (busWrite v s).t = s.t := rfl
@[simp] theorem busWrite_tf (v : Byte) : (busWrite v s).tf = s.tf := rfl
@[simp] theorem busWrite_tmode (v : Byte) : (busWrite v s).tmode = s.tmode := rfl
@[simp] theorem busWrite_presc (v : Byte) : (busWrite v s).presc = s.presc := rfl
@[simp] theorem busWrite_t1Prev (v : Byte) : (busWrite v s).t1Prev = s.t1Prev := rfl
@[simp] theorem busWrite_ieExt (v : Byte) : (busWrite v s).ieExt = s.ieExt := rfl
@[simp] theorem busWrite_ieTcnt (v : Byte) : (busWrite v s).ieTcnt = s.ieTcnt := rfl
@[simp] theorem busWrite_iip (v : Byte) : (busWrite v s).iip = s.iip := rfl
@[simp] theorem busWrite_tirq (v : Byte) : (busWrite v s).tirq = s.tirq := rfl
@[simp] theorem busWrite_latchBus (v : Byte) : (busWrite v s).latchBus = v := rfl
@[simp] theorem busWrite_latchP1 (v : Byte) : (busWrite v s).latchP1 = s.latchP1 := rfl
@[simp] theorem busWrite_latchP2 (v : Byte) : (busWrite v s).latchP2 = s.latchP2 := rfl
@[simp] theorem busWrite_busDriven (v : Byte) : (busWrite v s).busDriven = true := rfl
@[simp] theorem busWrite_exp4 (v : Byte) : (busWrite v s).exp4 = s.exp4 := rfl
@[simp] theorem busWrite_exp5 (v : Byte) : (busWrite v s).exp5 = s.exp5 := rfl
@[simp] theorem busWrite_exp6 (v : Byte) : (busWrite v s).exp6 = s.exp6 := rfl
@[simp] theorem busWrite_exp7 (v : Byte) : (busWrite v s).exp7 = s.exp7 := rfl
@[simp] theorem busWrite_t0Clk (v : Byte) : (busWrite v s).t0Clk = s.t0Clk := rfl
@[simp] theorem busWrite_xram (v : Byte) : (busWrite v s).xram = s.xram := rfl
@[simp] theorem busWrite_prog (v : Byte) : (busWrite v s).prog = s.prog := rfl
@[simp] theorem busWrite_inputs (v : Byte) : (busWrite v s).inputs = s.inputs := rfl
@[simp] theorem busWrite_draws (v : Byte) : (busWrite v s).draws = s.draws := rfl
@[simp] theorem busWrite_shown (v : Byte) : (busWrite v s).shown = .writeStrobe :: .latch .bus v :: s.shown := rfl

/-! `popSp`. -/

@[simp] theorem popSp_params : (popSp s).params = s.params := rfl
@[simp] theorem popSp_a : (popSp s).a = s.a := rfl
@[simp] theorem popSp_ram : (popSp s).ram = s.ram := rfl
@[simp] theorem popSp_rb : (popSp s).rb = s.rb := rfl
@[simp] theorem popSp_pc : (popSp s).pc = s.pc := rfl
@[simp] theorem popSp_mbf : (popSp s).mbf = s.mbf := rfl
@[simp] theorem popSp_c : (popSp s).c = s.c := rfl
@[simp] theorem popSp_ac : (popSp s).ac = s.ac := rfl
@[simp] theorem popSp_f0 : (popSp s).f0 = s.f0 := rfl
@[simp] theorem popSp_f1 : (popSp s).f1 = s.f1 := rfl
@[simp] theorem popSp_sp : (popSp s).sp = s.sp - 1#3 := rfl
@[simp] theorem popSp_t : (popSp s).t = s.t := rfl
@[simp] theorem popSp_tf : (popSp s).tf = s.tf := rfl
@[simp] theorem popSp_tmode : (popSp s).tmode = s.tmode := rfl
@[simp] theorem popSp_presc : (popSp s).presc = s.presc := rfl
@[simp] theorem popSp_t1Prev : (popSp s).t1Prev = s.t1Prev := rfl
@[simp] theorem popSp_ieExt : (popSp s).ieExt = s.ieExt := rfl
@[simp] theorem popSp_ieTcnt : (popSp s).ieTcnt = s.ieTcnt := rfl
@[simp] theorem popSp_iip : (popSp s).iip = s.iip := rfl
@[simp] theorem popSp_tirq : (popSp s).tirq = s.tirq := rfl
@[simp] theorem popSp_latchBus : (popSp s).latchBus = s.latchBus := rfl
@[simp] theorem popSp_latchP1 : (popSp s).latchP1 = s.latchP1 := rfl
@[simp] theorem popSp_latchP2 : (popSp s).latchP2 = s.latchP2 := rfl
@[simp] theorem popSp_busDriven : (popSp s).busDriven = s.busDriven := rfl
@[simp] theorem popSp_exp4 : (popSp s).exp4 = s.exp4 := rfl
@[simp] theorem popSp_exp5 : (popSp s).exp5 = s.exp5 := rfl
@[simp] theorem popSp_exp6 : (popSp s).exp6 = s.exp6 := rfl
@[simp] theorem popSp_exp7 : (popSp s).exp7 = s.exp7 := rfl
@[simp] theorem popSp_t0Clk : (popSp s).t0Clk = s.t0Clk := rfl
@[simp] theorem popSp_xram : (popSp s).xram = s.xram := rfl
@[simp] theorem popSp_prog : (popSp s).prog = s.prog := rfl
@[simp] theorem popSp_inputs : (popSp s).inputs = s.inputs := rfl
@[simp] theorem popSp_draws : (popSp s).draws = s.draws := rfl
@[simp] theorem popSp_shown : (popSp s).shown = s.shown := rfl

end Sys2Proof.Machine
end

