-- ==== Sys2Proof/Laws/Memory.lean ====
section
/-! SUPPORT. What one read after one write gives, and that a write keeps the canonical form, for all three spaces. -/

namespace Sys2Proof.Machine

theorem lookup_insert (m : Memory) (a b : Nat) (v : Byte) :
    Memory.lookup (Memory.insert m a v) b = if b = a then some v else Memory.lookup m b := by
  induction m with
  | nil => rfl
  | cons e m ih =>
    obtain ⟨k, w⟩ := e
    simp only [Memory.insert]
    split
    · subst k
      simp only [Memory.lookup]
      split <;> simp_all
    · split
      · simp only [Memory.lookup]
      · simp only [Memory.lookup, ih]
        split <;> split <;> simp_all

theorem lookup_erase (m : Memory) (a b : Nat) :
    Memory.lookup (Memory.erase m a) b = if b = a then none else Memory.lookup m b := by
  induction m with
  | nil => simp [Memory.erase, Memory.lookup]
  | cons e m ih =>
    obtain ⟨k, w⟩ := e
    simp only [Memory.erase]
    split
    · subst k
      simp only [ih, Memory.lookup]
      split <;> rfl
    · simp only [Memory.lookup, ih]
      split <;> split <;> simp_all

/-- Reading a space after one write: the byte written there, what was read before elsewhere. -/
theorem read_write (sp : Space) (m : Memory) (a b : Nat) (v : Byte) :
    Memory.read sp (Memory.write sp m a v) b = if b = a then some v else Memory.read sp m b := by
  unfold Memory.write
  split
  next h =>
    simp only [Memory.read, lookup_erase]
    by_cases hb : b = a
    · simp [hb, h]
    · simp [hb]
  next h =>
    simp only [Memory.read, lookup_insert]
    by_cases hb : b = a
    · simp [hb]
    · simp [hb]

/-- Internal RAM after one write. -/
theorem readRam_writeRam (a b : Nat) (v : Byte) (s : State) :
    readRam (writeRam a v s) b = if b = a then v else readRam s b := by
  simp only [readRam, writeRam, read_write]
  split <;> rfl

/-- External data memory after one write. -/
theorem readXram_writeXram (a b v : Byte) (s : State) :
    readXram (writeXram a v s) b = if b = a then some v else readXram s b := by
  simp only [readXram, writeXram, read_write, BitVec.toNat_inj]

/-- Program memory after one byte is placed. -/
theorem readProg_placeProg (a b : Addr12) (v : Byte) (s : State) :
    readProg (placeProg a v s) b = if b = a then v else readProg s b := by
  simp only [readProg, placeProg, read_write, BitVec.toNat_inj]
  split <;> rfl

/-- A list with the same RAM reads the same byte. -/
theorem readRam_congr {s t : State} (h : t.ram = s.ram) (a : Nat) : readRam t a = readRam s a := by
  simp only [readRam, h]

theorem readXram_congr {s t : State} (h : t.xram = s.xram) (a : Byte) : readXram t a = readXram s a := by
  simp only [readXram, h]

theorem readProg_congr {s t : State} (h : t.prog = s.prog) (a : Addr12) : readProg t a = readProg s a := by
  simp only [readProg, h]

/-! The canonical form. -/

theorem wfFrom_mono {sp : Space} {size lo lo' : Nat} {m : Memory} (hlo : lo' ≤ lo)
    (h : Memory.wfFrom sp size lo m = true) : Memory.wfFrom sp size lo' m = true := by
  cases m with
  | nil => rfl
  | cons e m =>
    obtain ⟨k, w⟩ := e
    simp only [Memory.wfFrom, Bool.and_eq_true, decide_eq_true_eq] at h ⊢
    exact ⟨⟨⟨by omega, h.1.1.2⟩, h.1.2⟩, h.2⟩

theorem insert_wfFrom {sp : Space} {size : Nat} {v : Byte} (hv : Memory.fill sp ≠ some v) {a : Nat} (ha : a < size)
    (m : Memory) : ∀ lo, lo ≤ a → Memory.wfFrom sp size lo m = true →
      Memory.wfFrom sp size lo (Memory.insert m a v) = true := by
  induction m with
  | nil =>
    intro lo hlo _
    simp only [Memory.insert, Memory.wfFrom, Bool.and_eq_true, decide_eq_true_eq]
    exact ⟨⟨⟨hlo, ha⟩, hv⟩, trivial⟩
  | cons e m ih =>
    obtain ⟨k, w⟩ := e
    intro lo hlo h
    simp only [Memory.wfFrom, Bool.and_eq_true, decide_eq_true_eq] at h
    simp only [Memory.insert]
    split
    · subst k
      simp only [Memory.wfFrom, Bool.and_eq_true, decide_eq_true_eq]
      exact ⟨⟨⟨hlo, ha⟩, hv⟩, h.2⟩
    · split
      · simp only [Memory.wfFrom, Bool.and_eq_true, decide_eq_true_eq]
        exact ⟨⟨⟨hlo, ha⟩, hv⟩, ⟨⟨by omega, h.1.1.2⟩, h.1.2⟩, h.2⟩
      · simp only [Memory.wfFrom, Bool.and_eq_true, decide_eq_true_eq]
        exact ⟨h.1, ih (k + 1) (by omega) h.2⟩

theorem erase_wfFrom {sp : Space} {size : Nat} (a : Nat) (m : Memory) : ∀ lo, Memory.wfFrom sp size lo m = true →
    Memory.wfFrom sp size lo (Memory.erase m a) = true := by
  induction m with
  | nil => intro _ h; exact h
  | cons e m ih =>
    obtain ⟨k, w⟩ := e
    intro lo h
    simp only [Memory.wfFrom, Bool.and_eq_true, decide_eq_true_eq] at h
    simp only [Memory.erase]
    split
    · exact wfFrom_mono (by omega) (ih (k + 1) h.2)
    · simp only [Memory.wfFrom, Bool.and_eq_true, decide_eq_true_eq]
      exact ⟨h.1, ih (k + 1) h.2⟩

/-- A write inside a space keeps its canonical form. -/
theorem write_wf {sp : Space} {size : Nat} {m : Memory} {a : Nat} (v : Byte) (ha : a < size)
    (h : Memory.wf sp size m = true) : Memory.wf sp size (Memory.write sp m a v) = true := by
  unfold Memory.wf at *
  unfold Memory.write
  split
  · exact erase_wfFrom a m 0 h
  next hv => exact insert_wfFrom hv ha m 0 (Nat.zero_le a) h

end Sys2Proof.Machine
end

