-- ==== Sys2Proof/Laws/Ops.lean ====
section
/-! SUPPORT. What each shared operation can do, said once: the fields it may change (an equation with the rest of the
state kept), the addresses it stores to, and that those lie inside RAM. -/

namespace Sys2Proof.Machine

/-- PSW bit 4 is F1 or RB; nothing else changes. -/
theorem setPswBit4_frame (b : Bool) (s : State) :
    setPswBit4 b s = { s with f1 := (setPswBit4 b s).f1, rb := (setPswBit4 b s).rb } := by
  unfold setPswBit4
  split <;> rfl

theorem pswWriteHi_frame (h : Nibble) (s : State) :
    pswWriteHi h s = { s with
      c := h.getLsbD 3, ac := h.getLsbD 2, f0 := h.getLsbD 1,
      f1 := (pswWriteHi h s).f1, rb := (pswWriteHi h s).rb } := by
  unfold pswWriteHi setPswBit4
  split <;> rfl

theorem pswWrite_frame (v : Byte) (s : State) :
    pswWrite v s = { s with
      c := (highNibble v).getLsbD 3, ac := (highNibble v).getLsbD 2,
      f0 := (highNibble v).getLsbD 1, f1 := (pswWrite v s).f1, rb := (pswWrite v s).rb, sp := v.extractLsb' 0 3 } := by
  unfold pswWrite
  rw [pswWriteHi_frame]

/-- A push changes RAM and SP. -/
theorem push_frame (pc : Addr12) (psw : Byte) (s : State) :
    push pc psw s = { s with ram := (push pc psw s).ram, sp := s.sp + 1#3 } := rfl

/-- RAM after a push: the two bytes of the entry, and every other byte as before (10_state.md R47). -/
theorem readRam_push (pc : Addr12) (psw : Byte) (s : State) (x : Nat) :
    readRam (push pc psw s) x =
      if x = stackAddr s.sp + 1 then entryHigh pc psw
      else if x = stackAddr s.sp then pc.extractLsb' 0 8 else readRam s x := by
  have h : readRam (push pc psw s) x =
      readRam (writeRam (stackAddr s.sp + 1) (entryHigh pc psw) (writeRam (stackAddr s.sp) (pc.extractLsb' 0 8) s)) x :=
    readRam_congr rfl x
  rw [h, readRam_writeRam, readRam_writeRam]

/-- Taking an interrupt changes RAM, SP, TIRQ, IIP and PC (60_exceptions.md R338). -/
theorem takeInterrupt_frame (src : IrqSource) (s : State) :
    takeInterrupt src s = { s with
      ram := (push s.pc (pswRead s) s).ram, sp := s.sp + 1#3,
      tirq := tirqAfter src s.tirq, iip := true, pc := vectorOf src } := rfl

/-- Returning from an interrupt changes PC, SP, IIP and PSW bits 7:4 (R240). -/
theorem returnRestore_frame (s : State) :
    returnRestore s = { s with
      pc := poppedPc s, sp := s.sp - 1#3, iip := false,
      c := (poppedPsw s).getLsbD 3, ac := (poppedPsw s).getLsbD 2, f0 := (poppedPsw s).getLsbD 1,
      f1 := (returnRestore s).f1, rb := (returnRestore s).rb } := by
  unfold returnRestore
  rw [pswWriteHi_frame]
  rfl

/-- Writing a latch changes the three latches at most. -/
theorem setLatch_frame (p : Port) (v : Byte) (s : State) :
    setLatch p v s = { s with
      latchBus := (setLatch p v s).latchBus, latchP1 := (setLatch p v s).latchP1,
      latchP2 := (setLatch p v s).latchP2 } := by
  cases p <;> rfl

/-- The latch written holds the value; the others are as before. -/
theorem latchOf_setLatch (p q : Port) (v : Byte) (s : State) :
    latchOf (setLatch p v s) q = if q = p then v else latchOf s q := by
  cases p <;> cases q <;> rfl

/-- Writing an expander port changes the four expander ports at most. -/
theorem setExp_frame (e : ExpPort) (v : Nibble) (s : State) :
    setExp e v s = { s with
      exp4 := (setExp e v s).exp4, exp5 := (setExp e v s).exp5,
      exp6 := (setExp e v s).exp6, exp7 := (setExp e v s).exp7 } := by
  cases e <;> rfl

/-- The expander port written holds the value; the others are as before. -/
theorem expOf_setExp (e f : ExpPort) (v : Nibble) (s : State) :
    expOf (setExp e v s) f = if f = e then v else expOf s f := by
  cases e <;> cases f <;> rfl

/-- A write of external data memory changes it, the bus and what the host was shown. -/
theorem xramWriteCycle_frame (a v : Byte) (s : State) :
    xramWriteCycle a v s = { s with
      xram := (writeXram a v s).xram, busDriven := false,
      shown := .xramWrite a v :: .writeStrobe :: s.shown } := rfl

/-! Addresses of internal RAM that the operations store to are inside it. -/

theorem ramSize_pos (s : State) : 64 ≤ ramSize s := by
  unfold ramSize
  split <;> omega

theorem regAddr_lt (s : State) (n : Reg) : regAddr s n < ramSize s := by
  have h := ramSize_pos s
  have hn := n.isLt
  unfold regAddr bankBase
  split <;> omega

theorem indAddr_lt (s : State) (r : Ptr) : indAddr s r < ramSize s :=
  Nat.mod_lt _ (by have h := ramSize_pos s; omega)

theorem stackAddr_lt (s : State) (sp : BitVec 3) : stackAddr sp + 1 < ramSize s := by
  have h := ramSize_pos s
  have hs := sp.isLt
  unfold stackAddr
  omega

/-- A write of a working register keeps RAM's canonical form. -/
theorem writeReg_wf (n : Reg) (v : Byte) (s : State) (h : Memory.wf .ram (ramSize s) s.ram = true) :
    Memory.wf .ram (ramSize s) (writeReg n v s).ram = true := write_wf v (regAddr_lt s n) h

/-- A write through a pointer keeps RAM's canonical form. -/
theorem writeInd_wf (r : Ptr) (v : Byte) (s : State) (h : Memory.wf .ram (ramSize s) s.ram = true) :
    Memory.wf .ram (ramSize s) (writeRam (indAddr s r) v s).ram = true := write_wf v (indAddr_lt s r) h

/-- A push keeps RAM's canonical form. -/
theorem push_wf (pc : Addr12) (psw : Byte) (s : State) (h : Memory.wf .ram (ramSize s) s.ram = true) :
    Memory.wf .ram (ramSize s) (push pc psw s).ram = true :=
  write_wf _ (stackAddr_lt s s.sp) (write_wf _ (by have h1 := stackAddr_lt s s.sp; omega) h)

/-- A write of external data memory keeps its canonical form. -/
theorem writeXram_wf (a v : Byte) (s : State) (h : Memory.wf .xram xramSize s.xram = true) :
    Memory.wf .xram xramSize (writeXram a v s).xram = true := write_wf v a.isLt h

/-- Placing a byte keeps program memory's canonical form. -/
theorem placeProg_wf (a : Addr12) (v : Byte) (s : State) (h : Memory.wf .prog progSize s.prog = true) :
    Memory.wf .prog progSize (placeProg a v s).prog = true := write_wf v a.isLt h

end Sys2Proof.Machine
end

