-- ==== Sys2Proof/Laws/PerInstr.lean ====
section
/-! SUPPORT. Statements about every instruction as syntax, one lemma per constructor. -/

namespace Sys2Proof.Laws

/-- The encoding of an instruction is as long as its length says (30_encoding.md R110). -/
def EncodedLength.Statement (i : Instr) : Prop := (encode i).length = instrLength i

theorem EncodedLength.addAR (n : Reg) : EncodedLength.Statement (.addAR n) := rfl
theorem EncodedLength.addAInd (r : Ptr) : EncodedLength.Statement (.addAInd r) := rfl
theorem EncodedLength.addAImm (v : Byte) : EncodedLength.Statement (.addAImm v) := rfl
theorem EncodedLength.addcAR (n : Reg) : EncodedLength.Statement (.addcAR n) := rfl
theorem EncodedLength.addcAInd (r : Ptr) : EncodedLength.Statement (.addcAInd r) := rfl
theorem EncodedLength.addcAImm (v : Byte) : EncodedLength.Statement (.addcAImm v) := rfl
theorem EncodedLength.anlAR (n : Reg) : EncodedLength.Statement (.anlAR n) := rfl
theorem EncodedLength.anlAInd (r : Ptr) : EncodedLength.Statement (.anlAInd r) := rfl
theorem EncodedLength.anlAImm (v : Byte) : EncodedLength.Statement (.anlAImm v) := rfl
theorem EncodedLength.anlPort (p : Port) (v : Byte) : EncodedLength.Statement (.anlPort p v) := rfl
theorem EncodedLength.anldEp (e : ExpPort) : EncodedLength.Statement (.anldEp e) := rfl
theorem EncodedLength.call (a : Addr11) : EncodedLength.Statement (.call a) := rfl
theorem EncodedLength.clrA : EncodedLength.Statement .clrA := rfl
theorem EncodedLength.clrC : EncodedLength.Statement .clrC := rfl
theorem EncodedLength.clrF0 : EncodedLength.Statement .clrF0 := rfl
theorem EncodedLength.clrF1 : EncodedLength.Statement .clrF1 := rfl
theorem EncodedLength.cplA : EncodedLength.Statement .cplA := rfl
theorem EncodedLength.cplC : EncodedLength.Statement .cplC := rfl
theorem EncodedLength.cplF0 : EncodedLength.Statement .cplF0 := rfl
theorem EncodedLength.cplF1 : EncodedLength.Statement .cplF1 := rfl
theorem EncodedLength.daA : EncodedLength.Statement .daA := rfl
theorem EncodedLength.decA : EncodedLength.Statement .decA := rfl
theorem EncodedLength.decR (n : Reg) : EncodedLength.Statement (.decR n) := rfl
theorem EncodedLength.disI : EncodedLength.Statement .disI := rfl
theorem EncodedLength.disTcnti : EncodedLength.Statement .disTcnti := rfl
theorem EncodedLength.djnz (n : Reg) (l : Byte) : EncodedLength.Statement (.djnz n l) := rfl
theorem EncodedLength.enI : EncodedLength.Statement .enI := rfl
theorem EncodedLength.enTcnti : EncodedLength.Statement .enTcnti := rfl
theorem EncodedLength.ent0Clk : EncodedLength.Statement .ent0Clk := rfl
theorem EncodedLength.inAP (p : IoPort) : EncodedLength.Statement (.inAP p) := rfl
theorem EncodedLength.incA : EncodedLength.Statement .incA := rfl
theorem EncodedLength.incR (n : Reg) : EncodedLength.Statement (.incR n) := rfl
theorem EncodedLength.incInd (r : Ptr) : EncodedLength.Statement (.incInd r) := rfl
theorem EncodedLength.insABus : EncodedLength.Statement .insABus := rfl
theorem EncodedLength.jbn (b : Fin 8) (l : Byte) : EncodedLength.Statement (.jbn b l) := rfl
theorem EncodedLength.jc (l : Byte) : EncodedLength.Statement (.jc l) := rfl
theorem EncodedLength.jf0 (l : Byte) : EncodedLength.Statement (.jf0 l) := rfl
theorem EncodedLength.jf1 (l : Byte) : EncodedLength.Statement (.jf1 l) := rfl
theorem EncodedLength.jmp (a : Addr11) : EncodedLength.Statement (.jmp a) := rfl
theorem EncodedLength.jmpp : EncodedLength.Statement .jmpp := rfl
theorem EncodedLength.jnc (l : Byte) : EncodedLength.Statement (.jnc l) := rfl
theorem EncodedLength.jni (l : Byte) : EncodedLength.Statement (.jni l) := rfl
theorem EncodedLength.jnt0 (l : Byte) : EncodedLength.Statement (.jnt0 l) := rfl
theorem EncodedLength.jnt1 (l : Byte) : EncodedLength.Statement (.jnt1 l) := rfl
theorem EncodedLength.jnz (l : Byte) : EncodedLength.Statement (.jnz l) := rfl
theorem EncodedLength.jobf (l : Byte) : EncodedLength.Statement (.jobf l) := rfl
theorem EncodedLength.jtf (l : Byte) : EncodedLength.Statement (.jtf l) := rfl
theorem EncodedLength.jt0 (l : Byte) : EncodedLength.Statement (.jt0 l) := rfl
theorem EncodedLength.jt1 (l : Byte) : EncodedLength.Statement (.jt1 l) := rfl
theorem EncodedLength.jz (l : Byte) : EncodedLength.Statement (.jz l) := rfl
theorem EncodedLength.movAImm (v : Byte) : EncodedLength.Statement (.movAImm v) := rfl
theorem EncodedLength.movAPsw : EncodedLength.Statement .movAPsw := rfl
theorem EncodedLength.movAR (n : Reg) : EncodedLength.Statement (.movAR n) := rfl
theorem EncodedLength.movAInd (r : Ptr) : EncodedLength.Statement (.movAInd r) := rfl
theorem EncodedLength.movAT : EncodedLength.Statement .movAT := rfl
theorem EncodedLength.movPswA : EncodedLength.Statement .movPswA := rfl
theorem EncodedLength.movRA (n : Reg) : EncodedLength.Statement (.movRA n) := rfl
theorem EncodedLength.movRImm (n : Reg) (v : Byte) : EncodedLength.Statement (.movRImm n v) := rfl
theorem EncodedLength.movIndA (r : Ptr) : EncodedLength.Statement (.movIndA r) := rfl
theorem EncodedLength.movIndImm (r : Ptr) (v : Byte) : EncodedLength.Statement (.movIndImm r v) := rfl
theorem EncodedLength.movTA : EncodedLength.Statement .movTA := rfl
theorem EncodedLength.movdAEp (e : ExpPort) : EncodedLength.Statement (.movdAEp e) := rfl
theorem EncodedLength.movdEpA (e : ExpPort) : EncodedLength.Statement (.movdEpA e) := rfl
theorem EncodedLength.movpA : EncodedLength.Statement .movpA := rfl
theorem EncodedLength.movp3A : EncodedLength.Statement .movp3A := rfl
theorem EncodedLength.movxAInd (r : Ptr) : EncodedLength.Statement (.movxAInd r) := rfl
theorem EncodedLength.movxIndA (r : Ptr) : EncodedLength.Statement (.movxIndA r) := rfl
theorem EncodedLength.nop : EncodedLength.Statement .nop := rfl
theorem EncodedLength.orlAR (n : Reg) : EncodedLength.Statement (.orlAR n) := rfl
theorem EncodedLength.orlAInd (r : Ptr) : EncodedLength.Statement (.orlAInd r) := rfl
theorem EncodedLength.orlAImm (v : Byte) : EncodedLength.Statement (.orlAImm v) := rfl
theorem EncodedLength.orlPort (p : Port) (v : Byte) : EncodedLength.Statement (.orlPort p v) := rfl
theorem EncodedLength.orldEp (e : ExpPort) : EncodedLength.Statement (.orldEp e) := rfl
theorem EncodedLength.outlBus : EncodedLength.Statement .outlBus := rfl
theorem EncodedLength.outlP (p : IoPort) : EncodedLength.Statement (.outlP p) := rfl
theorem EncodedLength.ret : EncodedLength.Statement .ret := rfl
theorem EncodedLength.retr : EncodedLength.Statement .retr := rfl
theorem EncodedLength.rlA : EncodedLength.Statement .rlA := rfl
theorem EncodedLength.rlcA : EncodedLength.Statement .rlcA := rfl
theorem EncodedLength.rrA : EncodedLength.Statement .rrA := rfl
theorem EncodedLength.rrcA : EncodedLength.Statement .rrcA := rfl
theorem EncodedLength.selMb (k : Bool) : EncodedLength.Statement (.selMb k) := rfl
theorem EncodedLength.selRb (k : Bool) : EncodedLength.Statement (.selRb k) := rfl
theorem EncodedLength.stopTcnt : EncodedLength.Statement .stopTcnt := rfl
theorem EncodedLength.strtCnt : EncodedLength.Statement .strtCnt := rfl
theorem EncodedLength.strtT : EncodedLength.Statement .strtT := rfl
theorem EncodedLength.swapA : EncodedLength.Statement .swapA := rfl
theorem EncodedLength.xchAR (n : Reg) : EncodedLength.Statement (.xchAR n) := rfl
theorem EncodedLength.xchAInd (r : Ptr) : EncodedLength.Statement (.xchAInd r) := rfl
theorem EncodedLength.xchdAInd (r : Ptr) : EncodedLength.Statement (.xchdAInd r) := rfl
theorem EncodedLength.xrlAR (n : Reg) : EncodedLength.Statement (.xrlAR n) := rfl
theorem EncodedLength.xrlAInd (r : Ptr) : EncodedLength.Statement (.xrlAInd r) := rfl
theorem EncodedLength.xrlAImm (v : Byte) : EncodedLength.Statement (.xrlAImm v) := rfl

end Sys2Proof.Laws
end

