-- ==== Sys2Proof/Laws/Step.lean ====
section
/-! SUPPORT. What the timer, the boundary and the step can do, said once. -/

namespace Sys2Proof.Machine

/-- An increment changes T, TF and TIRQ at most. -/
theorem incrementT_frame (s : State) :
    incrementT s = { s with t := (incrementT s).t, tf := (incrementT s).tf, tirq := (incrementT s).tirq } := by
  unfold incrementT
  split <;> rfl

theorem prescale_frame (n : Nat) (s : State) :
    prescale n s = { s with
      t := (prescale n s).t, tf := (prescale n s).tf, tirq := (prescale n s).tirq,
      presc := (prescale n s).presc } := by
  unfold prescale
  split
  · rw [incrementT_frame]
  · rfl

theorem sampleT1_frame (s : State) :
    sampleT1 s = { s with
      t := (sampleT1 s).t, tf := (sampleT1 s).tf, tirq := (sampleT1 s).tirq,
      t1Prev := (nextPins s).t1, inputs := s.inputs.tail, draws := s.draws + 1 } := by
  unfold sampleT1
  split
  · rw [incrementT_frame]; rfl
  · rfl

theorem sampleCycles_frame (n : Nat) (s : State) :
    sampleCycles n s = { s with
      t := (sampleCycles n s).t, tf := (sampleCycles n s).tf, tirq := (sampleCycles n s).tirq,
      t1Prev := (sampleCycles n s).t1Prev, inputs := (sampleCycles n s).inputs, draws := (sampleCycles n s).draws } := by
  induction n generalizing s with
  | zero => rfl
  | succ n ih =>
    simp only [sampleCycles]
    rw [ih (sampleT1 s)]
    rw [sampleT1_frame]

/-- A tick changes T, TF, TIRQ, PRESC, T1_PREV and the draws at most (60_exceptions.md R346, R347). -/
theorem tick_frame (n : Nat) (s : State) :
    tick n s = { s with
      t := (tick n s).t, tf := (tick n s).tf, tirq := (tick n s).tirq, presc := (tick n s).presc,
      t1Prev := (tick n s).t1Prev, inputs := (tick n s).inputs, draws := (tick n s).draws } := by
  unfold tick
  split
  · rfl
  · rw [prescale_frame]
  · rw [sampleCycles_frame]

theorem sampleInt_frame (s : State) :
    sampleInt s = { s with inputs := (sampleInt s).inputs, draws := (sampleInt s).draws } := by
  unfold sampleInt
  split <;> rfl

/-- What a boundary can do: go on without an interrupt, or enter the one recognised (R337, R338). -/
theorem boundary_cases (s : State) :
    (recognised s = none ∧ boundary s = sampleInt s) ∨
      (∃ src, recognised s = some src ∧ boundary s = tick Config.entryCycles (takeInterrupt src (sampleInt s))) := by
  unfold boundary
  cases h : recognised s with
  | none => exact Or.inl ⟨rfl, rfl⟩
  | some src => exact Or.inr ⟨src, rfl, rfl⟩

/-- Nothing is recognised while an interrupt is in progress (R340). -/
theorem recognised_iip {s : State} (h : s.iip = true) : recognised s = none := by simp [recognised, h]

/-- What is recognised has a request: the external source its enable and a low pin, the timer its latch (R337). -/
theorem recognised_cases {s : State} {src : IrqSource} (h : recognised s = some src) :
    s.iip = false ∧ ((src = .external ∧ s.ieExt = true ∧ (nextPins s).int = false) ∨ (src = .timer ∧ s.tirq = true)) := by
  unfold recognised timerRequest at h
  split at h
  · cases h
  next h1 =>
    refine ⟨by simpa using h1, ?_⟩
    split at h
    next h2 =>
      cases h
      simp only [Bool.and_eq_true, Bool.not_eq_true'] at h2
      exact Or.inl ⟨rfl, h2⟩
    · split at h
      next h3 => cases h; exact Or.inr ⟨rfl, h3⟩
      · cases h

/-- What a boundary changes: RAM and SP by a push, PC, IIP, TIRQ, the timer and the draws; nothing else. -/
theorem boundary_frame (s : State) :
    boundary s = { s with
      ram := (boundary s).ram, sp := (boundary s).sp, pc := (boundary s).pc,
      iip := (boundary s).iip, tirq := (boundary s).tirq, t := (boundary s).t, tf := (boundary s).tf,
      presc := (boundary s).presc, t1Prev := (boundary s).t1Prev, inputs := (boundary s).inputs,
      draws := (boundary s).draws } := by
  rcases boundary_cases s with ⟨-, h⟩ | ⟨src, -, h⟩
  · rw [h, sampleInt_frame]
  · rw [h, tick_frame, takeInterrupt_frame, sampleInt_frame]

/-- What the step adds to an instruction's own effect. -/
theorem completeStep_frame (i : Instr) (b s : State) :
    completeStep i b s = { s with
      ram := (completeStep i b s).ram, sp := (completeStep i b s).sp,
      pc := (completeStep i b s).pc, iip := (completeStep i b s).iip, tirq := (completeStep i b s).tirq,
      t := (completeStep i b s).t, tf := (completeStep i b s).tf, presc := (completeStep i b s).presc,
      t1Prev := (completeStep i b s).t1Prev, inputs := (completeStep i b s).inputs,
      draws := (completeStep i b s).draws } := by
  unfold completeStep
  rw [boundary_frame, tick_frame]

/-- What a step that goes on did: it fetched an instruction, took its effect, and completed the step. -/
theorem step_cases {s t : State} (h : step s = .next t) :
    ∃ i u, fetchInstr s = .ok i ∧ exec i s = .next u ∧ t = completeStep i s u := by
  unfold step at h
  split at h
  · cases h
  next i hi =>
    split at h
    next u hu => cases h; exact ⟨i, u, hi, hu, rfl⟩
    · cases h
    · cases h

end Sys2Proof.Machine
end

