-- ==== Sys2Proof/Laws/Safety.lean ====
section
/-! SUPPORT. How the canonical form of the three memories carries over from one state to the next. -/

namespace Sys2Proof.Machine

theorem ramSize_congr {s t : State} (h : t.params = s.params) : ramSize t = ramSize s := by simp only [ramSize, h]

/-- No memory written. -/
theorem memoryWf_same {s t : State} (hp : t.params = s.params) (hr : t.ram = s.ram) (hx : t.xram = s.xram)
    (hg : t.prog = s.prog) (h : memoryWf s = true) : memoryWf t = true := by
  unfold memoryWf at *
  rw [ramSize_congr hp, hr, hx, hg]
  exact h

/-- Internal RAM written. -/
theorem memoryWf_ram {s t : State} (hp : t.params = s.params)
    (hr : Memory.wf .ram (ramSize s) s.ram = true → Memory.wf .ram (ramSize s) t.ram = true) (hx : t.xram = s.xram)
    (hg : t.prog = s.prog) (h : memoryWf s = true) : memoryWf t = true := by
  unfold memoryWf at *
  rw [ramSize_congr hp, hx, hg]
  simp only [Bool.and_eq_true] at *
  exact ⟨⟨hr h.1.1, h.1.2⟩, h.2⟩

/-- External data memory written. -/
theorem memoryWf_xram {s t : State} (hp : t.params = s.params) (hr : t.ram = s.ram)
    (hx : Memory.wf .xram xramSize s.xram = true → Memory.wf .xram xramSize t.xram = true)
    (hg : t.prog = s.prog) (h : memoryWf s = true) : memoryWf t = true := by
  unfold memoryWf at *
  rw [ramSize_congr hp, hr, hg]
  simp only [Bool.and_eq_true] at *
  exact ⟨⟨h.1.1, hx h.1.2⟩, h.2⟩

end Sys2Proof.Machine
end

