-- ==== Sys2Proof/Tests/Slice0.lean ====
section
/-! SUPPORT. Tests of the model: the encoding tables, one-step vectors of spec/95_test_vectors.md (its level 2, named by
id), and a witness for the hypotheses of every statement that has some. -/

namespace Sys2Proof.Tests

open Sys2Proof.Machine Sys2Proof.Claims

/-- Pins with nothing driven low. -/
def quiet : PinLevels :=
  { p1 := 0xFF#8, p2 := 0xFF#8, bus := 0xFF#8, e4 := 0xF#4, e5 := 0xF#4, e6 := 0xF#4, e7 := 0xF#4,
    t0 := true, t1 := true, int := true }

/-- The state with these bytes of program memory at an address, and PC there. -/
def codeAt (pc : Addr12) (bytes : List Byte) (s : State) : State :=
  { (bytes.foldl (fun (p : Addr12 × State) b => (incPc p.1, placeProg p.1 b p.2)) (pc, s)).2 with pc := pc }

/-- The state with these bytes of internal RAM. -/
def withRam (cells : List (Nat × Byte)) (s : State) : State := cells.foldl (fun t c => writeRam c.1 c.2 t) s

/-- The outcome is a next state of which `p` holds. -/
def goesTo (o : Host.Outcome State Fault Refusal) (p : State → Bool) : Bool :=
  match o with
  | .next t => p t
  | .fault _ => false
  | .refused _ => false

/-- The outcome is this fault. -/
def faultsWith (o : Host.Outcome State Fault Refusal) (f : Fault) : Bool :=
  match o with
  | .next _ => false
  | .fault g => decide (g = f)
  | .refused _ => false

/-- The outcome is this refusal. -/
def refusesWith (o : Host.Outcome State Fault Refusal) (r : Refusal) : Bool :=
  match o with
  | .next _ => false
  | .fault _ => false
  | .refused q => decide (q = r)

/-- Each list of bytes decodes to the instruction beside it, to the last byte. -/
def allDecode (words : List (List Byte × Instr)) : Bool := words.all fun w => decide (decode w.1 = .ok (w.2, []))

/-! Well-formed instructions. -/

/-- The one check: `JOBF` is refused; its neighbour with the same bytes is not. -/
theorem test_jobf_is_ill_formed : wellFormed (.jobf 0x50#8) = false ∧ wellFormed (.jni 0x50#8) = true := by
  decide

/-! Decoding. -/

/-- Words written out from 30_encoding.md R112 to R125 and the Op column of 95_test_vectors.md. -/
theorem test_decode_arithmetic :
    allDecode [
      ([0x6D#8], .addAR 5),
      ([0x61#8], .addAInd .r1),
      ([0x03#8, 0x3C#8], .addAImm 0x3C#8),
      ([0x7F#8], .addcAR 7),
      ([0x70#8], .addcAInd .r0),
      ([0x13#8, 0xFF#8], .addcAImm 0xFF#8),
      ([0x57#8], .daA),
      ([0x07#8], .decA),
      ([0xCB#8], .decR 3),
      ([0x17#8], .incA),
      ([0x1E#8], .incR 6),
      ([0x11#8], .incInd .r1)] := by
  decide

/-- Words written out from 30_encoding.md R112 to R125 and the Op column of 95_test_vectors.md. -/
theorem test_decode_logical :
    allDecode [
      ([0x59#8], .anlAR 1),
      ([0x50#8], .anlAInd .r0),
      ([0x53#8, 0x0F#8], .anlAImm 0x0F#8),
      ([0x27#8], .clrA),
      ([0x37#8], .cplA),
      ([0x4F#8], .orlAR 7),
      ([0x41#8], .orlAInd .r1),
      ([0x43#8, 0x80#8], .orlAImm 0x80#8),
      ([0xE7#8], .rlA),
      ([0xF7#8], .rlcA),
      ([0x77#8], .rrA),
      ([0x67#8], .rrcA),
      ([0x47#8], .swapA),
      ([0xDC#8], .xrlAR 4),
      ([0xD0#8], .xrlAInd .r0),
      ([0xD3#8, 0xFF#8], .xrlAImm 0xFF#8)] := by
  decide

/-- Words written out from 30_encoding.md R112 to R125 and the Op column of 95_test_vectors.md. -/
theorem test_decode_ports :
    allDecode [
      ([0x9A#8, 0x0F#8], .anlPort .p2 0x0F#8),
      ([0x9D#8], .anldEp .p5),
      ([0x09#8], .inAP .p1),
      ([0x0A#8], .inAP .p2),
      ([0x08#8], .insABus),
      ([0x0E#8], .movdAEp .p6),
      ([0x3F#8], .movdEpA .p7),
      ([0x88#8, 0x80#8], .orlPort .bus 0x80#8),
      ([0x8C#8], .orldEp .p4),
      ([0x02#8], .outlBus),
      ([0x39#8], .outlP .p1),
      ([0x3A#8], .outlP .p2)] := by
  decide

/-- Words written out from 30_encoding.md R112 to R125 and the Op column of 95_test_vectors.md. -/
theorem test_decode_control_transfer :
    allDecode [
      ([0x34#8, 0x23#8], .call 0x123#11),
      ([0xF4#8, 0xAB#8], .call 0x7AB#11),
      ([0xEB#8, 0x40#8], .djnz 3 0x40#8),
      ([0x12#8, 0x40#8], .jbn 0 0x40#8),
      ([0xB2#8, 0x77#8], .jbn 5 0x77#8),
      ([0xF2#8, 0x40#8], .jbn 7 0x40#8),
      ([0xF6#8, 0x80#8], .jc 0x80#8),
      ([0xB6#8, 0x10#8], .jf0 0x10#8),
      ([0x76#8, 0x10#8], .jf1 0x10#8),
      ([0xA4#8, 0xA7#8], .jmp 0x5A7#11),
      ([0x04#8, 0x20#8], .jmp 0x020#11),
      ([0xB3#8], .jmpp),
      ([0xE6#8, 0x00#8], .jnc 0x00#8),
      ([0x86#8, 0x50#8], .jni 0x50#8),
      ([0x26#8, 0x00#8], .jnt0 0x00#8),
      ([0x46#8, 0x00#8], .jnt1 0x00#8),
      ([0x96#8, 0x10#8], .jnz 0x10#8),
      ([0x16#8, 0x60#8], .jtf 0x60#8),
      ([0x36#8, 0x80#8], .jt0 0x80#8),
      ([0x56#8, 0x80#8], .jt1 0x80#8),
      ([0xC6#8, 0xF8#8], .jz 0xF8#8),
      ([0x83#8], .ret),
      ([0x93#8], .retr)] := by
  decide

/-- Words written out from 30_encoding.md R112 to R125 and the Op column of 95_test_vectors.md. -/
theorem test_decode_flags :
    allDecode [
      ([0x97#8], .clrC),
      ([0x85#8], .clrF0),
      ([0xA5#8], .clrF1),
      ([0xA7#8], .cplC),
      ([0x95#8], .cplF0),
      ([0xB5#8], .cplF1)] := by
  decide

/-- Words written out from 30_encoding.md R112 to R125 and the Op column of 95_test_vectors.md. -/
theorem test_decode_system_control :
    allDecode [
      ([0x15#8], .disI),
      ([0x35#8], .disTcnti),
      ([0x05#8], .enI),
      ([0x25#8], .enTcnti),
      ([0x75#8], .ent0Clk),
      ([0x00#8], .nop),
      ([0xE5#8], .selMb false),
      ([0xF5#8], .selMb true),
      ([0xC5#8], .selRb false),
      ([0xD5#8], .selRb true),
      ([0x65#8], .stopTcnt),
      ([0x45#8], .strtCnt),
      ([0x55#8], .strtT)] := by
  decide

/-- Words written out from 30_encoding.md R112 to R125 and the Op column of 95_test_vectors.md. -/
theorem test_decode_data_movement :
    allDecode [
      ([0x23#8, 0x7F#8], .movAImm 0x7F#8),
      ([0xC7#8], .movAPsw),
      ([0xFE#8], .movAR 6),
      ([0xF1#8], .movAInd .r1),
      ([0x42#8], .movAT),
      ([0xD7#8], .movPswA),
      ([0xAA#8], .movRA 2),
      ([0xBC#8, 0x99#8], .movRImm 4 0x99#8),
      ([0xA0#8], .movIndA .r0),
      ([0xB1#8, 0x01#8], .movIndImm .r1 0x01#8),
      ([0x62#8], .movTA),
      ([0xA3#8], .movpA),
      ([0xE3#8], .movp3A),
      ([0x80#8], .movxAInd .r0),
      ([0x91#8], .movxIndA .r1),
      ([0x2C#8], .xchAR 4),
      ([0x21#8], .xchAInd .r1),
      ([0x31#8], .xchdAInd .r1)] := by
  decide

/-- Bytes that are no instruction are rejected by name, and so is a list that ends inside one (R131). -/
theorem test_decode_rejects :
    decode [0x01#8] = .error (.undefinedOpcode 0x01#8) ∧
    decode [0x9B#8, 0x00#8] = .error (.undefinedOpcode 0x9B#8) ∧
    decode [0x0B#8] = .error (.undefinedOpcode 0x0B#8) ∧ decode [0x38#8] = .error (.undefinedOpcode 0x38#8) ∧
    decode [0xD6#8] = .error (.undefinedOpcode 0xD6#8) ∧ decode [] = .error .truncated ∧
    decode [0x23#8] = .error .truncated := by
  decide

/-- The table's numbering: byte 0 is bits 7:0, byte 1 bits 15:8. -/
theorem test_table_words :
    decodeTableWord 16 0xA7A4 = some (.jmp 0x5A7#11) ∧ decodeTableWord 8 0x6D = some (.addAR 5) ∧
    decodeTableWord 8 0x23 = some (.movAImm 0x00#8) ∧ decodeTableWord 8 0x01 = none := by
  decide

/-! Steps, from spec/95_test_vectors.md. -/

/-- V-A1. -/
theorem test_add_register_carries :
    goesTo (step (codeAt 0x100#12 [0x68#8] (withRam [(0x00, 0x01#8)] { State.reset with a := 0xFF#8 })))
      (fun t => t.a = 0x00#8 ∧ t.pc = 0x101#12 ∧ t.c = true ∧ t.ac = true) := by
  decide

/-- V-A2. -/
theorem test_add_register_bank_one :
    goesTo (step (codeAt 0x100#12 [0x6F#8] (withRam [(0x1F, 0x80#8)] { State.reset with a := 0x80#8, rb := true })))
      (fun t => t.a = 0x00#8 ∧ t.pc = 0x101#12 ∧ t.c = true ∧ t.ac = false) := by
  decide

/-- V-A3. -/
theorem test_add_indirect_wraps_pointer :
    goesTo (step (codeAt 0x100#12 [0x61#8]
        (withRam [(0x01, 0x61#8), (0x21, 0x0F#8)] { State.reset with a := 0x01#8 })))
      (fun t => t.a = 0x10#8 ∧ t.pc = 0x101#12 ∧ t.ac = true) := by
  decide

/-- V-A4. -/
theorem test_add_immediate_ignores_carry :
    goesTo (step (codeAt 0x100#12 [0x03#8, 0x00#8] { State.reset with a := 0x00#8, c := true, ac := true }))
      (fun t => t.a = 0x00#8 ∧ t.pc = 0x102#12 ∧ t.c = false ∧ t.ac = false) := by
  decide

/-- V-A5. -/
theorem test_addc_immediate :
    goesTo (step (codeAt 0x100#12 [0x13#8, 0xFF#8] { State.reset with a := 0x00#8, c := true }))
      (fun t => t.a = 0x00#8 ∧ t.pc = 0x102#12 ∧ t.c = true ∧ t.ac = true) := by
  decide

/-- V-A6. -/
theorem test_addc_register :
    goesTo (step (codeAt 0x100#12 [0x7A#8] (withRam [(0x02, 0x00#8)] { State.reset with a := 0x0F#8, c := true })))
      (fun t => t.a = 0x10#8 ∧ t.pc = 0x101#12 ∧ t.c = false ∧ t.ac = true) := by
  decide

/-- V-A7. -/
theorem test_addc_indirect_last_byte :
    goesTo (step (codeAt 0x100#12 [0x70#8]
        (withRam [(0x00, 0x3F#8), (0x3F, 0x01#8)] { State.reset with a := 0x7F#8 })))
      (fun t => t.a = 0x80#8 ∧ t.pc = 0x101#12 ∧ t.c = false ∧ t.ac = true) := by
  decide

/-- V-A8. -/
theorem test_da_keeps_carry :
    goesTo (step (codeAt 0x100#12 [0x57#8] { State.reset with a := 0x9A#8 }))
      (fun t => t.a = 0x00#8 ∧ t.pc = 0x101#12 ∧ t.c = false) := by
  decide

/-- V-A9. -/
theorem test_da_sets_carry :
    goesTo (step (codeAt 0x100#12 [0x57#8]
        { State.reset with a := 0x9A#8, params := { Params.default with daCarry := .setOnCarry } }))
      (fun t => t.a = 0x00#8 ∧ t.pc = 0x101#12 ∧ t.c = true) := by
  decide

/-- V-A14. -/
theorem test_dec_a :
    goesTo (step (codeAt 0x100#12 [0x07#8] { State.reset with a := 0x00#8 }))
      (fun t => t.a = 0xFF#8 ∧ t.pc = 0x101#12 ∧ t.c = false) := by
  decide

/-- V-A15. -/
theorem test_dec_register :
    goesTo (step (codeAt 0x100#12 [0xCD#8] (withRam [(0x05, 0x00#8)] State.reset)))
      (fun t => readRam t 0x05 = 0xFF#8 ∧ t.pc = 0x101#12) := by
  decide

/-- V-A16. -/
theorem test_inc_a :
    goesTo (step (codeAt 0x100#12 [0x17#8] { State.reset with a := 0xFF#8 }))
      (fun t => t.a = 0x00#8 ∧ t.pc = 0x101#12 ∧ t.c = false) := by
  decide

/-- V-A17. -/
theorem test_inc_register :
    goesTo (step (codeAt 0x100#12 [0x1F#8] (withRam [(0x07, 0xFF#8)] State.reset)))
      (fun t => readRam t 0x07 = 0x00#8 ∧ t.pc = 0x101#12) := by
  decide

/-- V-A18. -/
theorem test_inc_indirect :
    goesTo (step (codeAt 0x100#12 [0x10#8] (withRam [(0x00, 0x08#8), (0x08, 0xFF#8)] State.reset)))
      (fun t => readRam t 0x08 = 0x00#8 ∧ readRam t 0x00 = 0x08#8 ∧ t.pc = 0x101#12) := by
  decide

/-- V-L1. -/
theorem test_anl_register :
    goesTo (step (codeAt 0x100#12 [0x59#8] (withRam [(0x01, 0x0F#8)] { State.reset with a := 0xCA#8 })))
      (fun t => t.a = 0x0A#8 ∧ t.pc = 0x101#12) := by
  decide

/-- V-L2. -/
theorem test_anl_indirect :
    goesTo (step (codeAt 0x100#12 [0x50#8] (withRam [(0x00, 0x00#8)] { State.reset with a := 0xFF#8 })))
      (fun t => t.a = 0x00#8 ∧ t.pc = 0x101#12) := by
  decide

/-- V-L3. -/
theorem test_anl_immediate :
    goesTo (step (codeAt 0x100#12 [0x53#8, 0x0F#8] { State.reset with a := 0xB7#8, c := true, ac := true }))
      (fun t => t.a = 0x07#8 ∧ t.pc = 0x102#12 ∧ t.c = true ∧ t.ac = true) := by
  decide

/-- V-L4. -/
theorem test_clr_a :
    goesTo (step (codeAt 0x100#12 [0x27#8] { State.reset with a := 0x5C#8 }))
      (fun t => t.a = 0x00#8 ∧ t.pc = 0x101#12) := by
  decide

/-- V-L5. -/
theorem test_cpl_a :
    goesTo (step (codeAt 0x100#12 [0x37#8] { State.reset with a := 0x00#8 }))
      (fun t => t.a = 0xFF#8 ∧ t.pc = 0x101#12) := by
  decide

/-- V-L6. -/
theorem test_orl_register :
    goesTo (step (codeAt 0x100#12 [0x4F#8] (withRam [(0x07, 0x0A#8)] { State.reset with a := 0x50#8 })))
      (fun t => t.a = 0x5A#8 ∧ t.pc = 0x101#12) := by
  decide

/-- V-L7. -/
theorem test_orl_indirect :
    goesTo (step (codeAt 0x100#12 [0x41#8]
        (withRam [(0x01, 0x3F#8), (0x3F, 0x81#8)] { State.reset with a := 0x18#8 })))
      (fun t => t.a = 0x99#8 ∧ t.pc = 0x101#12) := by
  decide

/-- V-L8. -/
theorem test_orl_immediate :
    goesTo (step (codeAt 0x100#12 [0x43#8, 0x80#8] { State.reset with a := 0x01#8 }))
      (fun t => t.a = 0x81#8 ∧ t.pc = 0x102#12) := by
  decide

/-- V-L9. -/
theorem test_rl :
    goesTo (step (codeAt 0x100#12 [0xE7#8] { State.reset with a := 0x81#8 }))
      (fun t => t.a = 0x03#8 ∧ t.pc = 0x101#12 ∧ t.c = false) := by
  decide

/-- derived from R179. -/
theorem test_rlc :
    goesTo (step (codeAt 0x100#12 [0xF7#8] { State.reset with a := 0xA5#8, c := true }))
      (fun t => t.a = 0x4B#8 ∧ t.pc = 0x101#12 ∧ t.c = true) := by
  decide

/-- V-L12. -/
theorem test_rr :
    goesTo (step (codeAt 0x100#12 [0x77#8] { State.reset with a := 0x01#8 }))
      (fun t => t.a = 0x80#8 ∧ t.pc = 0x101#12 ∧ t.c = false) := by
  decide

/-- V-L14. -/
theorem test_rrc :
    goesTo (step (codeAt 0x100#12 [0x67#8] { State.reset with a := 0x00#8, c := true }))
      (fun t => t.a = 0x80#8 ∧ t.pc = 0x101#12 ∧ t.c = false) := by
  decide

/-- V-L16. -/
theorem test_swap :
    goesTo (step (codeAt 0x100#12 [0x47#8] { State.reset with a := 0x3C#8 }))
      (fun t => t.a = 0xC3#8 ∧ t.pc = 0x101#12) := by
  decide

/-- V-L17. -/
theorem test_xrl_register :
    goesTo (step (codeAt 0x100#12 [0xDC#8] (withRam [(0x04, 0x0F#8)] { State.reset with a := 0xFF#8 })))
      (fun t => t.a = 0xF0#8 ∧ t.pc = 0x101#12) := by
  decide

/-- V-L18. -/
theorem test_xrl_indirect :
    goesTo (step (codeAt 0x100#12 [0xD0#8]
        (withRam [(0x00, 0x22#8), (0x22, 0x55#8)] { State.reset with a := 0x55#8 })))
      (fun t => t.a = 0x00#8 ∧ t.pc = 0x101#12) := by
  decide

/-- V-L19. -/
theorem test_xrl_immediate :
    goesTo (step (codeAt 0x100#12 [0xD3#8, 0xFF#8] { State.reset with a := 0x5A#8 }))
      (fun t => t.a = 0xA5#8 ∧ t.pc = 0x102#12) := by
  decide

/-- V-P1. -/
theorem test_anl_bus :
    goesTo (step (codeAt 0x100#12 [0x98#8, 0x3C#8] { State.reset with latchBus := 0xF0#8 }))
      (fun t => t.latchBus = 0x30#8 ∧ t.pc = 0x102#12) := by
  decide

/-- V-P2. -/
theorem test_anl_p1 :
    goesTo (step (codeAt 0x100#12 [0x99#8, 0x7F#8] State.reset))
      (fun t => t.latchP1 = 0x7F#8 ∧ t.pc = 0x102#12) := by
  decide

/-- V-P5. -/
theorem test_anld :
    goesTo (step (codeAt 0x100#12 [0x9D#8] { State.reset with a := 0x35#8, exp5 := 0xF#4 }))
      (fun t => t.exp5 = 0x5#4 ∧ t.pc = 0x101#12) := by
  decide

/-- V-P6. -/
theorem test_in_p2 :
    goesTo (step (codeAt 0x100#12 [0x0A#8]
        { State.reset with latchP2 := 0xF0#8, inputs := [{ quiet with p2 := 0x5A#8 }] }))
      (fun t => t.a = 0x50#8 ∧ t.pc = 0x101#12) := by
  decide

/-- V-P7. -/
theorem test_in_p1 :
    goesTo (step (codeAt 0x100#12 [0x09#8] { State.reset with inputs := [{ quiet with p1 := 0xC3#8 }] }))
      (fun t => t.a = 0xC3#8 ∧ t.pc = 0x101#12) := by
  decide

/-- V-P8. -/
theorem test_ins_bus :
    goesTo (step (codeAt 0x100#12 [0x08#8]
        { State.reset with latchBus := 0x00#8, inputs := [{ quiet with bus := 0xC3#8 }] }))
      (fun t => t.a = 0xC3#8 ∧ t.latchBus = 0x00#8 ∧ t.pc = 0x101#12) := by
  decide

/-- V-P10. -/
theorem test_movd_read :
    goesTo (step (codeAt 0x100#12 [0x0C#8] { State.reset with a := 0xFF#8, inputs := [{ quiet with e4 := 0x9#4 }] }))
      (fun t => t.a = 0x09#8 ∧ t.pc = 0x101#12) := by
  decide

/-- V-P11. -/
theorem test_movd_write :
    goesTo (step (codeAt 0x100#12 [0x3F#8] { State.reset with a := 0xA7#8 }))
      (fun t => t.exp7 = 0x7#4 ∧ t.pc = 0x101#12) := by
  decide

/-- V-P12. -/
theorem test_orl_p2 :
    goesTo (step (codeAt 0x100#12 [0x8A#8, 0x80#8] { State.reset with latchP2 := 0x0F#8 }))
      (fun t => t.latchP2 = 0x8F#8 ∧ t.pc = 0x102#12) := by
  decide

/-- V-P13. -/
theorem test_orld :
    goesTo (step (codeAt 0x100#12 [0x8E#8] { State.reset with a := 0xF8#8, exp6 := 0x1#4 }))
      (fun t => t.exp6 = 0x9#4 ∧ t.pc = 0x101#12) := by
  decide

/-- V-P14. -/
theorem test_outl_bus :
    goesTo (step (codeAt 0x100#12 [0x02#8] { State.reset with a := 0x5A#8 }))
      (fun t => t.latchBus = 0x5A#8 ∧ t.busDriven = true ∧ t.pc = 0x101#12) := by
  decide

/-- V-P15. -/
theorem test_outl_p1 :
    goesTo (step (codeAt 0x100#12 [0x39#8] { State.reset with a := 0x0F#8 }))
      (fun t => t.latchP1 = 0x0F#8 ∧ t.pc = 0x101#12) := by
  decide

/-- V-C1. -/
theorem test_call_wraps_sp :
    goesTo (step (codeAt 0x2FE#12 [0xF4#8, 0xAB#8]
        { State.reset with sp := 7#3, c := true, ac := true, f0 := true, f1 := true }))
      (fun t => t.pc = 0x7AB#12 ∧ t.sp = 0#3 ∧ readRam t 0x16 = 0x00#8 ∧ readRam t 0x17 = 0xF3#8) := by
  decide

/-- V-C3. -/
theorem test_call_in_handler :
    goesTo (step (codeAt 0x010#12 [0x14#8, 0x00#8] { State.reset with mbf := true, iip := true }))
      (fun t => t.pc = 0x000#12 ∧ t.sp = 1#3 ∧ readRam t 0x08 = 0x12#8 ∧ readRam t 0x09 = 0x00#8) := by
  decide

/-- V-C4. -/
theorem test_djnz_of_zero :
    goesTo (step (codeAt 0x120#12 [0xEB#8, 0x20#8] (withRam [(0x03, 0x00#8)] State.reset)))
      (fun t => t.pc = 0x120#12 ∧ readRam t 0x03 = 0xFF#8) := by
  decide

/-- V-C7. -/
theorem test_djnz_at_page_end :
    goesTo (step (codeAt 0x1FF#12 [0xE8#8, 0x10#8] (withRam [(0x00, 0x05#8)] State.reset)))
      (fun t => t.pc = 0x210#12 ∧ readRam t 0x00 = 0x04#8) := by
  decide

/-- V-C8. -/
theorem test_jb7 :
    goesTo (step (codeAt 0x200#12 [0xF2#8, 0x40#8] { State.reset with a := 0x84#8 }))
      (fun t => t.pc = 0x240#12) := by
  decide

/-- V-C9. -/
theorem test_jb0 :
    goesTo (step (codeAt 0x200#12 [0x12#8, 0x40#8] { State.reset with a := 0x84#8 }))
      (fun t => t.pc = 0x202#12) := by
  decide

/-- V-C10. -/
theorem test_jc :
    goesTo (step (codeAt 0x050#12 [0xF6#8, 0x80#8] { State.reset with c := true }))
      (fun t => t.pc = 0x080#12) := by
  decide

/-- V-C12. -/
theorem test_jf0 :
    goesTo (step (codeAt 0x300#12 [0xB6#8, 0x10#8] { State.reset with f0 := true }))
      (fun t => t.pc = 0x310#12) := by
  decide

/-- V-C13. -/
theorem test_jf1 :
    goesTo (step (codeAt 0x300#12 [0x76#8, 0x10#8] { State.reset with f1 := false }))
      (fun t => t.pc = 0x302#12) := by
  decide

/-- V-C14. -/
theorem test_jmp_bank_one :
    goesTo (step (codeAt 0x000#12 [0xE4#8, 0xFF#8] { State.reset with mbf := true }))
      (fun t => t.pc = 0xFFF#12) := by
  decide

/-- V-C15. -/
theorem test_jmp_to_bank_zero :
    goesTo (step (codeAt 0x810#12 [0x04#8, 0x20#8] { State.reset with mbf := false }))
      (fun t => t.pc = 0x020#12) := by
  decide

/-- V-C16. -/
theorem test_jmpp :
    goesTo (step (codeAt 0x310#12 [0xB3#8] (placeProg 0x302#12 0x40#8 { State.reset with a := 0x02#8 })))
      (fun t => t.pc = 0x340#12) := by
  decide

/-- V-C17. -/
theorem test_jmpp_at_page_end :
    goesTo (step (codeAt 0x3FF#12 [0xB3#8] (placeProg 0x402#12 0x40#8 { State.reset with a := 0x02#8 })))
      (fun t => t.pc = 0x440#12) := by
  decide

/-- V-C18. -/
theorem test_jnc_at_page_end :
    goesTo (step (codeAt 0x0FE#12 [0xE6#8, 0x00#8] { State.reset with c := false }))
      (fun t => t.pc = 0x000#12) := by
  decide

/-- V-C19. -/
theorem test_jni_low :
    goesTo (step (codeAt 0x100#12 [0x86#8, 0x50#8] { State.reset with inputs := [{ quiet with int := false }] }))
      (fun t => t.pc = 0x150#12) := by
  decide

/-- V-C20. -/
theorem test_jni_high :
    goesTo (step (codeAt 0x100#12 [0x86#8, 0x50#8] { State.reset with inputs := [{ quiet with int := true }] }))
      (fun t => t.pc = 0x102#12) := by
  decide

/-- V-C21. -/
theorem test_jnt0 :
    goesTo (step (codeAt 0x100#12 [0x26#8, 0x00#8] { State.reset with inputs := [{ quiet with t0 := false }] }))
      (fun t => t.pc = 0x100#12) := by
  decide

/-- V-C22. -/
theorem test_jnt1 :
    goesTo (step (codeAt 0x100#12 [0x46#8, 0x00#8] { State.reset with inputs := [{ quiet with t1 := true }] }))
      (fun t => t.pc = 0x102#12) := by
  decide

/-- V-C23. -/
theorem test_jnz :
    goesTo (step (codeAt 0x020#12 [0x96#8, 0x1C#8] { State.reset with a := 0x01#8 }))
      (fun t => t.pc = 0x01C#12) := by
  decide

/-- V-C25. -/
theorem test_jtf :
    goesTo (step (codeAt 0x040#12 [0x16#8, 0x60#8] { State.reset with tf := true }))
      (fun t => t.pc = 0x060#12 ∧ t.tf = false) := by
  decide

/-- V-C27. -/
theorem test_jt0 :
    goesTo (step (codeAt 0x100#12 [0x36#8, 0x80#8] { State.reset with inputs := [{ quiet with t0 := true }] }))
      (fun t => t.pc = 0x180#12) := by
  decide

/-- V-C28. -/
theorem test_jt1 :
    goesTo (step (codeAt 0x100#12 [0x56#8, 0x80#8] { State.reset with inputs := [{ quiet with t1 := false }] }))
      (fun t => t.pc = 0x102#12) := by
  decide

/-- V-C29. -/
theorem test_jz :
    goesTo (step (codeAt 0x7F0#12 [0xC6#8, 0xF8#8] { State.reset with a := 0x00#8 }))
      (fun t => t.pc = 0x7F8#12) := by
  decide

/-- V-C30. -/
theorem test_ret :
    goesTo (step (codeAt 0x500#12 [0x83#8] (withRam [(0x16, 0x34#8), (0x17, 0xF2#8)] { State.reset with sp := 0#3 })))
      (fun t => t.pc = 0x234#12 ∧ t.sp = 7#3 ∧ t.c = false) := by
  decide

/-- V-C31. -/
theorem test_retr :
    goesTo (step (codeAt 0x007#12 [0x93#8]
        (withRam [(0x08, 0x12#8), (0x09, 0xB8#8)] { State.reset with sp := 1#3, iip := true })))
      (fun t => t.pc = 0x812#12 ∧ t.c = true ∧ t.ac = false ∧ t.f0 = true ∧ t.f1 = true ∧ t.sp = 0#3 ∧
        t.iip = false) := by
  decide

/-- V-C32. -/
theorem test_retr_bank_in_psw :
    goesTo (step (codeAt 0x007#12 [0x93#8]
        (withRam [(0x08, 0x12#8), (0x09, 0xB8#8)]
          { State.reset with sp := 1#3, iip := true, params := { Params.default with pswBit4 := .bs } })))
      (fun t => t.pc = 0x812#12 ∧ t.rb = true ∧ t.f1 = false ∧ t.sp = 0#3 ∧ t.iip = false) := by
  decide

/-- V-C34. -/
theorem test_nop_at_bank_end :
    goesTo (step (codeAt 0x7FF#12 [0x00#8] State.reset))
      (fun t => t.pc = 0x000#12) := by
  decide

/-- V-C35. -/
theorem test_nop_at_bank_one_end :
    goesTo (step (codeAt 0xFFF#12 [0x00#8] State.reset))
      (fun t => t.pc = 0x800#12) := by
  decide

/-- V-F1. -/
theorem test_clr_c :
    goesTo (step (codeAt 0x100#12 [0x97#8] { State.reset with c := true, ac := true }))
      (fun t => t.pc = 0x101#12 ∧ t.c = false ∧ t.ac = true) := by
  decide

/-- V-F2. -/
theorem test_cpl_c :
    goesTo (step (codeAt 0x100#12 [0xA7#8] { State.reset with c := false }))
      (fun t => t.pc = 0x101#12 ∧ t.c = true) := by
  decide

/-- V-F3. -/
theorem test_clr_f0 :
    goesTo (step (codeAt 0x100#12 [0x85#8] { State.reset with f0 := true }))
      (fun t => t.pc = 0x101#12 ∧ t.f0 = false) := by
  decide

/-- V-F4. -/
theorem test_cpl_f0 :
    goesTo (step (codeAt 0x100#12 [0x95#8] { State.reset with f0 := false }))
      (fun t => t.pc = 0x101#12 ∧ t.f0 = true) := by
  decide

/-- V-F5. -/
theorem test_clr_f1 :
    goesTo (step (codeAt 0x100#12 [0xA5#8] { State.reset with f1 := true }))
      (fun t => t.pc = 0x101#12 ∧ t.f1 = false) := by
  decide

/-- V-F6. -/
theorem test_cpl_f1 :
    goesTo (step (codeAt 0x100#12 [0xB5#8] { State.reset with f1 := false }))
      (fun t => t.pc = 0x101#12 ∧ t.f1 = true) := by
  decide

/-- V-S2. -/
theorem test_dis_i :
    goesTo (step (codeAt 0x100#12 [0x15#8] { State.reset with ieExt := true }))
      (fun t => t.pc = 0x101#12 ∧ t.ieExt = false) := by
  decide

/-- V-S3. -/
theorem test_en_tcnti :
    goesTo (step (codeAt 0x100#12 [0x25#8] State.reset))
      (fun t => t.pc = 0x101#12 ∧ t.ieTcnt = true) := by
  decide

/-- V-S4. -/
theorem test_dis_tcnti :
    goesTo (step (codeAt 0x100#12 [0x35#8] { State.reset with ieTcnt := true, tirq := true, iip := true }))
      (fun t => t.pc = 0x101#12 ∧ t.ieTcnt = false ∧ t.tirq = false) := by
  decide

/-- V-S5. -/
theorem test_ent0_clk :
    goesTo (step (codeAt 0x100#12 [0x75#8] State.reset))
      (fun t => t.pc = 0x101#12 ∧ t.t0Clk = true) := by
  decide

/-- V-S8, first step. -/
theorem test_sel_mb1 :
    goesTo (step (codeAt 0x020#12 [0xF5#8] State.reset))
      (fun t => t.pc = 0x021#12 ∧ t.mbf = true) := by
  decide

/-- V-S9, first step. -/
theorem test_sel_rb1 :
    goesTo (step (codeAt 0x100#12 [0xD5#8] State.reset))
      (fun t => t.pc = 0x101#12 ∧ t.rb = true) := by
  decide

/-- V-S11, first step. -/
theorem test_strt_t :
    goesTo (step (codeAt 0x100#12 [0x55#8] { State.reset with t := 0x00#8 }))
      (fun t => t.pc = 0x101#12 ∧ t.tmode = .timer ∧ t.presc = 0#5) := by
  decide

/-- V-S12. -/
theorem test_mov_immediate_ticks :
    goesTo (step (codeAt 0x100#12 [0x23#8, 0x00#8] { State.reset with t := 0xFF#8, tmode := .timer, presc := 31#5 }))
      (fun t => t.a = 0x00#8 ∧ t.pc = 0x102#12 ∧ t.t = 0x00#8 ∧ t.tf = true ∧ t.presc = 1#5 ∧ t.tirq = false) := by
  decide

/-- V-S14. -/
theorem test_stop_tcnt :
    goesTo (step (codeAt 0x100#12 [0x65#8] { State.reset with t := 0x37#8, tmode := .timer, presc := 31#5 }))
      (fun t => t.pc = 0x101#12 ∧ t.tmode = .stopped ∧ t.t = 0x37#8 ∧ t.presc = 31#5) := by
  decide

/-- V-S15. -/
theorem test_strt_cnt :
    goesTo (step (codeAt 0x100#12 [0x45#8] { State.reset with t := 0xFE#8, inputs := [{ quiet with t1 := true }] }))
      (fun t => t.pc = 0x101#12 ∧ t.tmode = .counter ∧ t.t = 0xFE#8 ∧ t.t1Prev = true) := by
  decide

/-- V-D1. -/
theorem test_mov_immediate :
    goesTo (step (codeAt 0x100#12 [0x23#8, 0x7F#8] State.reset))
      (fun t => t.a = 0x7F#8 ∧ t.pc = 0x102#12) := by
  decide

/-- V-D2. -/
theorem test_mov_a_psw :
    goesTo (step (codeAt 0x100#12 [0xC7#8] { State.reset with c := true, f0 := true, sp := 3#3 }))
      (fun t => t.a = 0xAB#8 ∧ t.pc = 0x101#12) := by
  decide

/-- V-D4. -/
theorem test_mov_psw_a :
    goesTo (step (codeAt 0x100#12 [0xD7#8] { State.reset with a := 0xD5#8 }))
      (fun t => t.pc = 0x101#12 ∧ t.c = true ∧ t.ac = true ∧ t.f0 = false ∧ t.f1 = true ∧ t.sp = 5#3) := by
  decide

/-- V-D7, first step. -/
theorem test_mov_psw_a_bank :
    goesTo (step (codeAt 0x100#12 [0xD7#8]
        { State.reset with a := 0x10#8, params := { Params.default with pswBit4 := .bs } }))
      (fun t => t.rb = true ∧ t.f1 = false ∧ t.pc = 0x101#12) := by
  decide

/-- V-D8. -/
theorem test_mov_a_register :
    goesTo (step (codeAt 0x100#12 [0xFE#8] (withRam [(0x06, 0x99#8)] State.reset)))
      (fun t => t.a = 0x99#8 ∧ t.pc = 0x101#12) := by
  decide

/-- V-D9. -/
theorem test_mov_a_indirect :
    goesTo (step (codeAt 0x100#12 [0xF1#8] (withRam [(0x01, 0x18#8), (0x18, 0x42#8)] State.reset)))
      (fun t => t.a = 0x42#8 ∧ t.pc = 0x101#12) := by
  decide

/-- V-D10. -/
theorem test_mov_a_t :
    goesTo (step (codeAt 0x100#12 [0x42#8] { State.reset with t := 0x9C#8 }))
      (fun t => t.a = 0x9C#8 ∧ t.pc = 0x101#12) := by
  decide

/-- V-D11. -/
theorem test_mov_register_a :
    goesTo (step (codeAt 0x100#12 [0xAA#8] { State.reset with a := 0x3C#8, rb := true }))
      (fun t => t.pc = 0x101#12 ∧ readRam t 0x1A = 0x3C#8) := by
  decide

/-- V-D12. -/
theorem test_mov_register_immediate :
    goesTo (step (codeAt 0x100#12 [0xB8#8, 0x20#8] State.reset))
      (fun t => t.pc = 0x102#12 ∧ readRam t 0x00 = 0x20#8) := by
  decide

/-- V-D13. -/
theorem test_mov_indirect_a_self :
    goesTo (step (codeAt 0x100#12 [0xA0#8] (withRam [(0x00, 0x00#8)] { State.reset with a := 0x77#8 })))
      (fun t => t.pc = 0x101#12 ∧ readRam t 0x00 = 0x77#8) := by
  decide

/-- V-D14. -/
theorem test_mov_indirect_a_wraps :
    goesTo (step (codeAt 0x100#12 [0xA0#8] (withRam [(0x00, 0x48#8)] { State.reset with a := 0x77#8 })))
      (fun t => t.pc = 0x101#12 ∧ readRam t 0x08 = 0x77#8) := by
  decide

/-- V-D15. -/
theorem test_mov_indirect_immediate :
    goesTo (step (codeAt 0x100#12 [0xB1#8, 0x00#8] (withRam [(0x01, 0x3F#8), (0x3F, 0x55#8)] State.reset)))
      (fun t => t.pc = 0x102#12 ∧ readRam t 0x3F = 0x00#8) := by
  decide

/-- V-D16. -/
theorem test_mov_t_a :
    goesTo (step (codeAt 0x100#12 [0x62#8] { State.reset with a := 0xF0#8 }))
      (fun t => t.pc = 0x101#12 ∧ t.t = 0xF0#8) := by
  decide

/-- V-D17. -/
theorem test_movp :
    goesTo (step (codeAt 0x1F0#12 [0xA3#8] (placeProg 0x105#12 0xC9#8 { State.reset with a := 0x05#8 })))
      (fun t => t.a = 0xC9#8 ∧ t.pc = 0x1F1#12) := by
  decide

/-- V-D18. -/
theorem test_movp_at_page_end :
    goesTo (step (codeAt 0x1FF#12 [0xA3#8] (placeProg 0x205#12 0x6B#8 { State.reset with a := 0x05#8 })))
      (fun t => t.a = 0x6B#8 ∧ t.pc = 0x200#12) := by
  decide

/-- V-D19. -/
theorem test_movp3_from_bank_one :
    goesTo (step (codeAt 0xA40#12 [0xE3#8] (placeProg 0x3FF#12 0x12#8 { State.reset with a := 0xFF#8 })))
      (fun t => t.a = 0x12#8 ∧ t.pc = 0xA41#12) := by
  decide

/-- V-D20. -/
theorem test_movx_read :
    goesTo (step (codeAt 0x100#12 [0x80#8] (writeXram 0x80#8 0x3D#8 (withRam [(0x00, 0x80#8)] State.reset))))
      (fun t => t.a = 0x3D#8 ∧ t.pc = 0x101#12) := by
  decide

/-- V-D21. -/
theorem test_movx_write :
    goesTo (step (codeAt 0x100#12 [0x91#8] (withRam [(0x01, 0xFF#8)] { State.reset with a := 0xA5#8 })))
      (fun t => t.pc = 0x101#12 ∧ readXram t 0xFF#8 = some 0xA5#8) := by
  decide

/-- V-D23. -/
theorem test_xch_register :
    goesTo (step (codeAt 0x100#12 [0x2C#8] (withRam [(0x04, 0x22#8)] { State.reset with a := 0x11#8 })))
      (fun t => t.a = 0x22#8 ∧ t.pc = 0x101#12 ∧ readRam t 0x04 = 0x11#8) := by
  decide

/-- V-D26. -/
theorem test_xch_indirect :
    goesTo (step (codeAt 0x100#12 [0x20#8] (withRam [(0x00, 0x00#8)] { State.reset with a := 0x07#8 })))
      (fun t => t.a = 0x00#8 ∧ t.pc = 0x101#12 ∧ readRam t 0x00 = 0x07#8) := by
  decide

/-- V-D25. -/
theorem test_xchd :
    goesTo (step (codeAt 0x100#12 [0x31#8]
        (withRam [(0x01, 0x22#8), (0x22, 0xAF#8)] { State.reset with a := 0x36#8 })))
      (fun t => t.a = 0x3F#8 ∧ t.pc = 0x101#12 ∧ readRam t 0x22 = 0xA6#8) := by
  decide

/-- V-I1. -/
theorem test_external_interrupt :
    goesTo (step (codeAt 0x100#12 [0x00#8]
        { State.reset with ieExt := true, c := true, f0 := true, inputs := [{ quiet with int := false }] }))
      (fun t => t.pc = 0x003#12 ∧ t.sp = 1#3 ∧ t.iip = true ∧ readRam t 0x08 = 0x01#8 ∧ readRam t 0x09 = 0xA1#8) := by
  decide

/-- V-I3. -/
theorem test_timer_interrupt :
    goesTo (step (codeAt 0x2FF#12 [0x00#8] { State.reset with ieTcnt := true, tirq := true, tf := true, sp := 2#3 }))
      (fun t => t.pc = 0x007#12 ∧ t.sp = 3#3 ∧ t.iip = true ∧ t.tirq = false ∧ t.tf = true ∧
        readRam t 0x0C = 0x00#8 ∧ readRam t 0x0D = 0x03#8) := by
  decide

/-- V-I4. -/
theorem test_external_wins :
    goesTo (step (codeAt 0x100#12 [0x00#8]
        { State.reset with ieExt := true, ieTcnt := true, tirq := true, inputs := [{ quiet with int := false }] }))
      (fun t => t.pc = 0x003#12 ∧ t.iip = true ∧ t.tirq = true ∧ readRam t 0x09 = 0x01#8) := by
  decide

/-- V-I5. -/
theorem test_lockout :
    goesTo (step (codeAt 0x100#12 [0x00#8]
        
          { State.reset with ieExt := true, ieTcnt := true, tirq := true, iip := true, inputs := [{ quiet with int := false }] }))
      (fun t => t.pc = 0x101#12 ∧ t.tirq = true ∧ t.iip = true) := by
  decide

/-- V-I6. -/
theorem test_retr_then_timer :
    goesTo (step (codeAt 0x003#12 [0x93#8]
        (withRam [(0x08, 0x50#8), (0x09, 0x01#8)]
          { State.reset with ieTcnt := true, tirq := true, iip := true, sp := 1#3 })))
      (fun t => t.pc = 0x007#12 ∧ t.tirq = false ∧ t.sp = 1#3 ∧ t.iip = true ∧ readRam t 0x08 = 0x50#8 ∧
        readRam t 0x09 = 0x01#8) := by
  decide

/-- V-I7. -/
theorem test_overflow_interrupt :
    goesTo (step (codeAt 0x100#12 [0x00#8]
        { State.reset with ieTcnt := true, t := 0xFF#8, tmode := .timer, presc := 31#5 }))
      (fun t => t.pc = 0x007#12 ∧ t.t = 0x00#8 ∧ t.tf = true ∧ t.presc = 2#5 ∧ t.iip = true ∧
        readRam t 0x08 = 0x01#8 ∧ readRam t 0x09 = 0x01#8) := by
  decide

/-- V-I8. -/
theorem test_en_i_with_int_low :
    goesTo (step (codeAt 0x100#12 [0x05#8] { State.reset with inputs := [{ quiet with int := false }] }))
      (fun t => t.pc = 0x003#12 ∧ t.sp = 1#3 ∧ t.ieExt = true ∧ t.iip = true ∧ readRam t 0x08 = 0x01#8 ∧
        readRam t 0x09 = 0x01#8) := by
  decide

/-- V-I9. -/
theorem test_interrupt_saves_bank :
    goesTo (step (codeAt 0x100#12 [0x00#8]
        
          { State.reset with ieExt := true, rb := true, f1 := true, params := { Params.default with pswBit4 := .bs }, inputs := [{ quiet with int := false }] }))
      (fun t => t.pc = 0x003#12 ∧ readRam t 0x08 = 0x01#8 ∧ readRam t 0x09 = 0x11#8) := by
  decide

/-! Stops. -/

/-- V-P4, V-C36: an undefined byte 0 faults. -/
theorem test_undefined_opcode :
    faultsWith (step (codeAt 0x100#12 [0x9B#8] State.reset)) (.undefinedOpcode 0x9B#8) ∧
    faultsWith (step (codeAt 0x100#12 [0x01#8] State.reset)) (.undefinedOpcode 0x01#8) := by
  decide

/-- V-D22: a `MOVX` read of a byte that nothing has written faults. -/
theorem test_movx_read_unwritten :
    faultsWith (step (codeAt 0x100#12 [0x80#8] (withRam [(0x00, 0x80#8)] State.reset))) (.uninitialisedXram 0x80#8) := by
  decide

/-- R234. -/
theorem test_jobf_is_refused : refusesWith (exec (.jobf 0x50#8) State.reset) .foreignInstruction := by
  decide

/-! Witnesses: concrete states and operands that meet the hypotheses of a statement together, for each of its
clauses. -/

theorem witness_DecodeOfEncode :
    wellFormed (.addAR 0) = true ∧ wellFormed (.addAR 7) = true ∧ wellFormed (.jmp 0x7FF#11) = true := by
  decide

theorem witness_EncodeOfDecode : decode [0xF4#8, 0xFF#8, 0x00#8] = .ok (.call 0x7FF#11, [0x00#8]) := by
  decide

theorem witness_PlacedInstructionIsFetched :
    wellFormed .nop = true ∧ encode .nop = [0x00#8] ∧ wellFormed (.jmp 0x7FF#11) = true ∧
    encode (.jmp 0x7FF#11) = [0xE4#8, 0xFF#8] ∧
    fetchInstr (State.withFetchWord { State.reset with pc := 0x7FF#12 } 16 0xFFE4) = .ok (.jmp 0x7FF#11) := by
  decide

/-- Its second byte lies at the start of the bank, so the fetch wraps. -/
theorem witness_StepRunsDecodedInstruction :
    let s := codeAt 0x7FF#12 [0x23#8, 0x5A#8] State.reset
    decode [readProg s s.pc, readProg s (incPc s.pc)] = .ok (.movAImm 0x5A#8, []) ∧
    goesTo (step s) (fun t => t.a = 0x5A#8 ∧ t.pc = 0x001#12) ∧
    Instr.movAImm 0x5A#8 ≠ .strtT ∧ Instr.movAImm 0x5A#8 ≠ .strtCnt ∧ State.reset.tmode ≠ .counter ∧
    { State.reset with tmode := .counter }.tmode = .counter := by
  decide

theorem witness_CanonicalMemoriesAreEqual :
    Memory.wf .ram 64 (Memory.write .ram (Memory.write .ram [] 63 0x01#8) 0 0x02#8) = true ∧
    Memory.wf .ram 64 (Memory.write .ram (Memory.write .ram [] 0 0x02#8) 63 0x01#8) = true ∧
    ∀ a, Memory.read .ram (Memory.write .ram (Memory.write .ram [] 63 0x01#8) 0 0x02#8) a =
      Memory.read .ram (Memory.write .ram (Memory.write .ram [] 0 0x02#8) 63 0x01#8) a :=
  ⟨by decide, by decide, fun _ => rfl⟩

theorem witness_RegistersAreRam :
    let s := withRam [(0x18, 0x1F#8)] { State.reset with rb := true }
    regAddr s 7 ≠ regAddr s (ptrReg .r0) ∧ indAddr s .r0 = regAddr s 7 := by
  decide

theorem witness_DecimalAdjustByAlgorithm :
    Params.default.daCarry = .unaffected ∧ { Params.default with daCarry := .setOnCarry }.daCarry = .setOnCarry ∧
    daHighFix 0x9A#8 false false = true ∧ daHighFix 0x99#8 false false = false ∧ daLowFix 0x0A#8 false = true ∧
    daLowFix 0x09#8 false = false ∧ daLowFix 0x00#8 true = true := by
  decide

theorem witness_DecimalAdjustMakesBcdSum :
    (99 < 100 ∧ 1 < 100) ∧ { State.reset with a := 0x99#8 }.a = bcd 99 ∧
    readSource State.reset (.imm 0x01#8) = bcd 1 ∧ { State.reset with a := 0x00#8 }.a = bcd 0 := by
  decide

/-- One instruction that changes each of C, AC, F0, SP and PC[11]. -/
theorem witness_OnlyNamedRowsChangeStatusAndBank :
    goesTo (exec .cplC State.reset) (fun t => t.c ≠ State.reset.c) ∧
    goesTo (exec (.addAImm 0x0F#8) { State.reset with a := 0x01#8 }) (fun t => t.ac ≠ false) ∧
    goesTo (exec .cplF0 State.reset) (fun t => t.f0 ≠ State.reset.f0) ∧
    goesTo (exec (.call 0#11) State.reset) (fun t => t.sp ≠ State.reset.sp) ∧
    goesTo (exec (.jmp 0#11) { State.reset with mbf := true }) (fun t => t.pc.getLsbD 11 ≠ false) := by
  decide

theorem witness_SequentialInstructionsAdvancePc :
    goesTo (exec .nop { State.reset with pc := 0x7FF#12 }) (fun t => t.pc = 0x000#12) ∧
    isControlTransfer .nop = false := by
  decide

theorem witness_ExpanderPortsWritten :
    (0x5#4 = (0x35#8 : Byte).extractLsb' 0 4) ∧ (0x1#4 = expOf { State.reset with exp4 := 0x3#4 } .p4 &&& 0x5#4) ∧
    (0x7#4 = expOf { State.reset with exp7 := 0x3#4 } .p7 ||| 0x5#4) := by
  decide

/-- The call at the last entry, so that SP wraps. -/
theorem witness_ReturnUndoesCall :
    goesTo (exec (.call 0x123#11) { State.reset with sp := 7#3 }) (fun u => u.sp = 0#3 ∧ u.ram = u.ram) := by
  decide

theorem witness_ConditionalJumps :
    ({ State.reset with c := true }.c = true) ∧ State.reset.c = false ∧
    ({ State.reset with f0 := true }.f0 = true) ∧ State.reset.f0 = false ∧ ({ State.reset with f1 := true }.f1 = true) ∧ State.reset.f1 = false ∧
    State.reset.a.toNat = 0 ∧ { State.reset with a := 0x80#8 }.a.toNat ≠ 0 ∧
    { State.reset with a := 0x80#8 }.a.toNat / 2 ^ 7 % 2 = 1 ∧
    ¬ { State.reset with a := 0x80#8 }.a.toNat / 2 ^ 0 % 2 = 1 := by
  decide

theorem witness_PinJumps :
    let s := { State.reset with inputs := [quiet] }
    (false = !(nextPins s).int) ∧ (false = !(nextPins s).t0) ∧ (false = !(nextPins s).t1) ∧
    (true = (nextPins s).t0) ∧ (true = (nextPins s).t1) := by
  decide

theorem witness_DjnzCountsDown :
    (readReg State.reset 3).toNat ≠ 1 ∧ (readReg (withRam [(0x03, 0x01#8)] State.reset) 3).toNat = 1 := by
  decide

/-- At offset FFH of a page: the next page is read. -/
theorem witness_JmpAndJmpp :
    let s := { State.reset with pc := 0x3FF#12, a := 0x02#8 }
    (0x402#12 : Addr12).toNat = (afterBytes 1 s.pc).toNat / 256 * 256 + s.a.toNat := by
  decide

theorem witness_TimerControls :
    State.reset.tmode ≠ .counter ∧ { State.reset with tmode := .counter }.tmode = .counter := by
  decide

theorem witness_MovesFixedByTheirRow :
    (0x3FF#12 : Addr12).toNat = 0x300 + { State.reset with a := 0xFF#8 }.a.toNat := by
  decide

theorem witness_MovesIntoAccumulator :
    let s := { State.reset with pc := 0x1FF#12, a := 0xFF#8 }
    (0x2FF#12 : Addr12).toNat = (afterBytes 1 s.pc).toNat / 256 * 256 + s.a.toNat := by
  decide

/-- Both settings of the parameter, for the statements on the PSW and on returns. -/
theorem witness_PswWriteSetsFields :
    State.reset.params.pswBit4 = .f1 ∧
    { State.reset with params := { Params.default with pswBit4 := .bs } }.params.pswBit4 = .bs := by
  decide

theorem witness_MovxReads :
    readXram (writeXram 0x00#8 0x3D#8 State.reset) (ptrValue State.reset .r0) = some 0x3D#8 ∧
    readXram (writeXram 0xFF#8 0x3D#8 State.reset) (ptrValue State.reset .r0) = none := by
  decide

theorem witness_ExternalInterruptEntry :
    let s := { State.reset with ieExt := true, tirq := true, ieTcnt := true, inputs := [{ quiet with int := false }] }
    s.iip = false ∧ s.ieExt = true ∧ (nextPins s).int = false := by
  decide

theorem witness_TimerInterruptEntry :
    let s := { State.reset with ieTcnt := true, tirq := true }
    let u := { State.reset with ieExt := true, ieTcnt := true, tirq := true, inputs := [quiet] }
    (s.iip = false ∧ s.tirq = true ∧ s.ieExt = false) ∧
    u.iip = false ∧ u.tirq = true ∧ (nextPins u).int = true := by
  decide

theorem witness_BoundaryWithoutInterrupt :
    let s := { State.reset with ieExt := true, inputs := [quiet] }
    { State.reset with iip := true, tirq := true }.iip = true ∧
    (State.reset.iip = false ∧ State.reset.ieExt = false ∧ State.reset.tirq = false) ∧
    s.iip = false ∧ s.ieExt = true ∧ (nextPins s).int = true ∧ s.tirq = false := by
  decide

theorem witness_OnlyRetrEndsLockout :
    let s := codeAt 0x003#12 [0x93#8] { State.reset with iip := true }
    s.iip = true ∧ goesTo (step s) (fun t => t.iip = false) := by
  decide

theorem witness_TimerModeCounts32Cycles : { State.reset with tmode := .timer }.tmode = .timer := by
  decide

theorem witness_TimerTickAndOverflow :
    (0 ≤ 2 ∧ 2 ≤ 2) ∧ { State.reset with t := 0xFF#8 }.t.toNat = 255 ∧
    { State.reset with t := 0xFE#8 }.t.toNat ≠ 255 ∧
    State.reset.tmode = .stopped ∧
    (32 ≤ { State.reset with tmode := .timer, presc := 30#5 }.presc.toNat + 2) ∧
    ({ State.reset with tmode := .timer, presc := 31#5 }.presc.toNat + 0 < 32) ∧
    { State.reset with tmode := .timer, presc := 29#5 }.presc.toNat + 2 < 32 := by
  decide

theorem witness_CounterModeCountsFalls :
    let s := { State.reset with tmode := .counter, t1Prev := true, inputs := [{ quiet with t1 := false }] }
    let u := { State.reset with tmode := .counter, t1Prev := true, inputs := [quiet] }
    (s.tmode = .counter ∧ s.t1Prev = true ∧ (nextPins s).t1 = false) ∧
    u.tmode = .counter ∧ ¬ (u.t1Prev = true ∧ (nextPins u).t1 = false) := by
  decide

theorem witness_ResetLeaves :
    (resetEvent { State.reset with pc := 0x123#12, a := 0x5A#8 }).a = 0x5A#8 ∧
    (resetEvent { State.reset with pc := 0x123#12 }).pc = 0x000#12 := by
  decide

/-- A step that pushes on the stack and one that writes external data memory. -/
theorem witness_StepKeepsWellFormed :
    let s := codeAt 0x000#12 [0xF4#8, 0xFF#8] { State.reset with sp := 7#3 }
    let u := codeAt 0x000#12 [0x90#8] { State.reset with a := 0x5A#8 }
    wellFormedState s = true ∧ goesTo (step s) (fun t => wellFormedState t) ∧
    wellFormedState u = true ∧ goesTo (step u) (fun t => wellFormedState t) := by
  decide

theorem witness_StepKeepsProgramMemory : goesTo (step State.reset) (fun t => t.pc = 0x001#12) := by
  decide

theorem witness_EveryInstructionCompletes : wellFormed .retr = true ∧ wellFormed (.movxAInd .r0) = true := by
  decide

/-- Both ways in which no interrupt is possible. -/
theorem witness_JumpToSelfIsFixedPoint :
    let s := codeAt 0x7FE#12 [0xE4#8, 0xFE#8] State.reset
    let u := { s with iip := true }
    (fetchInstr s = .ok (.jmp 0x7FE#11) ∧ longTarget s 0x7FE#11 = s.pc ∧ s.ieExt = false ∧ s.ieTcnt = false ∧
      s.tmode = .stopped ∧ requestEnabled s = true) ∧
    fetchInstr u = .ok (.jmp 0x7FE#11) ∧ longTarget u 0x7FE#11 = u.pc ∧ u.iip = true ∧ requestEnabled u = true := by
  decide

end Sys2Proof.Tests
end

section
/-! SUPPORT. `DEC A` and `INC A` (40_arithmetic.md R158, R160). -/

namespace Sys2Proof.Proofs

open Sys2Proof.Machine Sys2Proof.Claims

/-! The two instructions on the state: one write of A, then the PC. -/

theorem exec_decA (s : State) : exec .decA s = .next (advance 1 { s with a := s.a - 1#8 }) := rfl

theorem exec_incA (s : State) : exec .incA s = .next (advance 1 { s with a := s.a + 1#8 }) := rfl

/-! A byte stepped by one, as a number: the borrow out of 00H and the carry out of FFH are dropped. -/

theorem toNat_byte_sub_one (x : Byte) : (x - 1#8).toNat = (x.toNat + 255) % 256 := by
  simp [BitVec.toNat_sub, Nat.add_comm]

theorem toNat_byte_add_one (x : Byte) : (x + 1#8).toNat = (x.toNat + 1) % 256 := by
  simp [BitVec.toNat_add]

/-- An instruction that only writes A and moves past its own bytes: A holds what was written, and every field but A and
PC, hence every flag, is the old one. -/
theorem changes_only_a_and_pc {i : Instr} {s : State} {len : Nat} {v : Byte}
    (h : exec i s = .next (advance len { s with a := v })) :
    ∃ t, exec i s = .next t ∧ t.a = v ∧ t = { s with a := t.a, pc := t.pc } :=
  ⟨_, h, rfl, rfl⟩

/-- Settles O14: each row has its byte and cycle by the tables, and each effect is one write of A, read as a number. -/
theorem incDecAccumulator : Obligations.IncDecAccumulator := by
  refine ⟨⟨rfl, rfl⟩, ⟨rfl, rfl⟩, fun s => ⟨?dec, ?inc⟩⟩
  case dec =>
    obtain ⟨t, hexec, ha, hframe⟩ := changes_only_a_and_pc (exec_decA s)
    exact ⟨t, hexec, ha ▸ toNat_byte_sub_one s.a, hframe⟩
  case inc =>
    obtain ⟨t, hexec, ha, hframe⟩ := changes_only_a_and_pc (exec_incA s)
    exact ⟨t, hexec, ha ▸ toNat_byte_add_one s.a, hframe⟩

end Sys2Proof.Proofs
end

section
/-! SUPPORT. The logical instructions with an immediate operand and the clear, complement, rotate and swap of A
(41_logical.md R172 to R174, R177, R178, R180, R182, R185). -/

namespace Sys2Proof.Proofs

open Sys2Proof.Machine Sys2Proof.Claims

/-! The instructions on the state: one write of A, then the PC. -/

theorem exec_anlAImm (v : Byte) (s : State) :
    exec (.anlAImm v) s = .next (advance 2 { s with a := s.a &&& v }) := rfl

theorem exec_orlAImm (v : Byte) (s : State) :
    exec (.orlAImm v) s = .next (advance 2 { s with a := s.a ||| v }) := rfl

theorem exec_xrlAImm (v : Byte) (s : State) :
    exec (.xrlAImm v) s = .next (advance 2 { s with a := s.a ^^^ v }) := rfl

theorem exec_clrA (s : State) : exec .clrA s = .next (advance 1 { s with a := 0x00#8 }) := rfl

theorem exec_cplA (s : State) : exec .cplA s = .next (advance 1 { s with a := ~~~s.a }) := rfl

theorem exec_rlA (s : State) : exec .rlA s = .next (advance 1 { s with a := rotLeft s.a }) := rfl

theorem exec_rrA (s : State) : exec .rrA s = .next (advance 1 { s with a := rotRight s.a }) := rfl

theorem exec_swapA (s : State) : exec .swapA s = .next (advance 1 { s with a := swapNibbles s.a }) := rfl

/-! Bits of the results. -/

theorem getLsbD_byte_not (x : Byte) {k : Nat} (hk : k < 8) : (~~~x).getLsbD k = !x.getLsbD k := by
  simp [hk]

/-- When the low `m` bits and the high `n` bits of a word change places, bit `k` of the result is the bit `m` places above
`k` on the ring of all bits. -/
theorem getLsbD_exchanged_fields {m n k : Nat} (x : BitVec (m + n)) (hk : k < m + n) :
    (x.extractLsb' 0 m ++ x.extractLsb' m n).getLsbD k = x.getLsbD ((k + m) % (m + n)) := by
  rw [BitVec.getLsbD_append]
  by_cases hlow : k < n
  · have hring : (k + m) % (m + n) = m + k := by rw [Nat.mod_eq_of_lt (by omega), Nat.add_comm]
    simp [hlow, hring]
  · have hring : (k + m) % (m + n) = k - n := by
      rw [show k + m = k - n + (m + n) by omega, Nat.add_mod_right, Nat.mod_eq_of_lt (by omega)]
    have hhigh : k - n < m := by omega
    simp [hlow, hhigh, hring]

/-- One bit of a byte as a field of width 1. -/
theorem ofBool_getLsbD_eq_extract (x : Byte) (i : Nat) : BitVec.ofBool (x.getLsbD i) = x.extractLsb' i 1 := by
  ext k hk
  simp [show k = 0 by omega]

/-- `RL` moves every bit one place up the ring (R178). -/
theorem getLsbD_rotLeft (x : Byte) {k : Nat} (hk : k < 8) : (rotLeft x).getLsbD ((k + 1) % 8) = x.getLsbD k := by
  have hfields : rotLeft x = x.extractLsb' 0 7 ++ x.extractLsb' 7 1 := by
    rw [rotLeft, ofBool_getLsbD_eq_extract]
  rw [hfields, getLsbD_exchanged_fields (m := 7) (n := 1) x (by omega)]
  congr 1
  omega

/-- `RR` moves every bit one place down the ring (R180). -/
theorem getLsbD_rotRight (x : Byte) {k : Nat} (hk : k < 8) : (rotRight x).getLsbD k = x.getLsbD ((k + 1) % 8) := by
  have hfields : rotRight x = x.extractLsb' 0 1 ++ x.extractLsb' 1 7 := by
    rw [rotRight, ofBool_getLsbD_eq_extract]
  rw [hfields, getLsbD_exchanged_fields (m := 1) (n := 7) x hk]

/-- `SWAP` moves every bit half way round the ring (R182). -/
theorem getLsbD_swapNibbles (x : Byte) {k : Nat} (hk : k < 8) :
    (swapNibbles x).getLsbD ((k + 4) % 8) = x.getLsbD k := by
  rw [swapNibbles, getLsbD_exchanged_fields (m := 4) (n := 4) x (by omega)]
  congr 1
  omega

/-- An instruction that only writes A, its bits given by `bit` at the places `place`, and moves past its own bytes: A holds
these bits, and every field but A and PC, hence every flag, is the old one. -/
theorem changes_only_bits_of_a_and_pc {i : Instr} {s : State} {len : Nat} {v : Byte} {place : Nat → Nat}
    {bit : Nat → Bool} (h : exec i s = .next (advance len { s with a := v }))
    (hbits : ∀ k, k < 8 → v.getLsbD (place k) = bit k) :
    ∃ t, exec i s = .next t ∧ (∀ k, k < 8 → t.a.getLsbD (place k) = bit k) ∧ t = { s with a := t.a, pc := t.pc } := by
  obtain ⟨t, hexec, ha, hframe⟩ := changes_only_a_and_pc h
  exact ⟨t, hexec, ha ▸ hbits, hframe⟩

/-- Settles O16: each row has its bytes and cycles by the tables, and each effect is one bitwise write of A. -/
theorem logicImmediate : Obligations.LogicImmediate := by
  refine fun v => ⟨⟨rfl, rfl⟩, ⟨rfl, rfl⟩, ⟨rfl, rfl⟩, fun s => ⟨?anl, ?orl, ?xrl⟩⟩
  case anl => exact changes_only_bits_of_a_and_pc (exec_anlAImm v s) fun _ _ => BitVec.getLsbD_and
  case orl => exact changes_only_bits_of_a_and_pc (exec_orlAImm v s) fun _ _ => BitVec.getLsbD_or
  case xrl => exact changes_only_bits_of_a_and_pc (exec_xrlAImm v s) fun _ _ => BitVec.getLsbD_xor

/-- Settles O18: each row has its byte and cycle by the tables, and each effect is one write of A; the rotates and the swap
exchange two fields of A, which turns the ring of its bits. -/
theorem accumulatorOperations : Obligations.AccumulatorOperations := by
  refine ⟨⟨rfl, rfl⟩, ⟨rfl, rfl⟩, ⟨rfl, rfl⟩, ⟨rfl, rfl⟩, ⟨rfl, rfl⟩, fun s => ⟨?clr, ?cpl, ?rl, ?rr, ?swap⟩⟩
  case clr => exact changes_only_a_and_pc (exec_clrA s)
  case cpl => exact changes_only_bits_of_a_and_pc (exec_cplA s) fun _ => getLsbD_byte_not s.a
  case rl => exact changes_only_bits_of_a_and_pc (exec_rlA s) fun _ => getLsbD_rotLeft s.a
  case rr => exact changes_only_bits_of_a_and_pc (exec_rrA s) fun _ => getLsbD_rotRight s.a
  case swap => exact changes_only_bits_of_a_and_pc (exec_swapA s) fun _ => getLsbD_swapNibbles s.a

end Sys2Proof.Proofs
end

section
/-! SUPPORT. `CLR` and `CPL` of the flags C, F0 and F1 (44_flags.md R260 to R265). -/

namespace Sys2Proof.Proofs

open Sys2Proof.Machine Sys2Proof.Claims

/-! The instructions on the state: one write of the row's flag, then the PC. -/

theorem exec_clrC (s : State) : exec .clrC s = .next (advance 1 { s with c := false }) := rfl

theorem exec_clrF0 (s : State) : exec .clrF0 s = .next (advance 1 { s with f0 := false }) := rfl

theorem exec_clrF1 (s : State) : exec .clrF1 s = .next (advance 1 { s with f1 := false }) := rfl

theorem exec_cplC (s : State) : exec .cplC s = .next (advance 1 { s with c := !s.c }) := rfl

theorem exec_cplF0 (s : State) : exec .cplF0 s = .next (advance 1 { s with f0 := !s.f0 }) := rfl

theorem exec_cplF1 (s : State) : exec .cplF1 s = .next (advance 1 { s with f1 := !s.f1 }) := rfl

/-- An instruction that writes the state `u` and moves past its own bytes: every field but PC is the one of `u`. -/
theorem changes_only_pc_after_write {i : Instr} {s u : State} {len : Nat} (h : exec i s = .next (advance len u)) :
    ∃ t, exec i s = .next t ∧ t = { u with pc := t.pc } :=
  ⟨_, h, rfl⟩

/-- Settles O20: each row has its byte and cycle by the tables, and each effect is one write of its flag. -/
theorem flagInstructions : Obligations.FlagInstructions := by
  refine ⟨⟨rfl, rfl⟩, ⟨rfl, rfl⟩, ⟨rfl, rfl⟩, ⟨rfl, rfl⟩, ⟨rfl, rfl⟩, ⟨rfl, rfl⟩,
    fun s => ⟨?clrC, ?clrF0, ?clrF1, ?cplC, ?cplF0, ?cplF1⟩⟩
  case clrC => exact changes_only_pc_after_write (exec_clrC s)
  case clrF0 => exact changes_only_pc_after_write (exec_clrF0 s)
  case clrF1 => exact changes_only_pc_after_write (exec_clrF1 s)
  case cplC => exact changes_only_pc_after_write (exec_cplC s)
  case cplF0 => exact changes_only_pc_after_write (exec_cplF0 s)
  case cplF1 => exact changes_only_pc_after_write (exec_cplF1 s)

end Sys2Proof.Proofs
end

section
/-! SUPPORT. The moves of a fixed row between A and an immediate byte, T and page 3 of program memory (46_data_movement.md
R300, R304, R310, R312). -/

namespace Sys2Proof.Proofs

open Sys2Proof.Machine Sys2Proof.Claims

/-! The instructions on the state: one write of A or T, then the PC. -/

theorem exec_movAImm (v : Byte) (s : State) : exec (.movAImm v) s = .next (advance 2 { s with a := v }) := rfl

theorem exec_movAT (s : State) : exec .movAT s = .next (advance 1 { s with a := s.t }) := rfl

theorem exec_movTA (s : State) : exec .movTA s = .next (advance 1 { s with t := s.a }) := rfl

theorem exec_movp3A (s : State) :
    exec .movp3A s = .next (advance 1 { s with a := readProg s (0x3#4 ++ s.a) }) := rfl

/-- The address at offset `x` of page 3 of bank 0, from its number. -/
theorem eq_page_three_append {q : Addr12} {x : Byte} (hq : q.toNat = 0x300 + x.toNat) : q = 0x3#4 ++ x := by
  apply BitVec.eq_of_toNat_eq
  calc q.toNat = (0x3#4).toNat * 2 ^ 8 + x.toNat := hq
    _ = (0x3#4 ++ x).toNat := (toNat_append_eq _ _).symm

/-- Settles O37: each row has its bytes and cycles by the tables, and each effect is one write of A or T; the byte `MOVP3`
reads stands at offset A of page 3. -/
theorem movesFixedByTheirRow : Obligations.MovesFixedByTheirRow := by
  refine ⟨fun _ => ⟨rfl, rfl⟩, ⟨rfl, rfl⟩, ⟨rfl, rfl⟩, ⟨rfl, rfl⟩, fun s => ⟨?imm, ?fromT, ?toT, ?page3⟩⟩
  case imm => exact fun v => changes_only_pc_after_write (exec_movAImm v s)
  case fromT => exact changes_only_pc_after_write (exec_movAT s)
  case toT => exact changes_only_pc_after_write (exec_movTA s)
  case page3 =>
    intro q hq
    rw [eq_page_three_append hq]
    exact changes_only_pc_after_write (exec_movp3A s)

end Sys2Proof.Proofs
end

section
/-! SUPPORT. The opcode table by the operand field of each row (30_encoding.md R112 to R126): a row matches exactly the
first bytes that carry an operand in its field, so decoding and encoding invert each other row by row (R129 to R135). -/

namespace Sys2Proof.Proofs

open Sys2Proof.Machine Sys2Proof.Claims

/-- An operand field of byte 0: the bits outside it, how it is read and written, and that these invert each other. -/
structure OperandField (α : Type) where
  mask : Byte
  get : Byte → Option α
  put : Byte → α → Byte
  put_get : ∀ b0, ∀ x ∈ get b0, put (b0 &&& mask) x = b0
  mask_put : ∀ op x, op &&& mask = op → put op x &&& mask = op
  get_put : ∀ op x, op &&& mask = op → get (put op x) = some x

/-- No field: byte 0 is the opcode. -/
def fixedField : OperandField Unit where
  mask := 0xFF#8
  get _ := some ()
  put op _ := op
  put_get := forall_byte (by decide +kernel)
  mask_put _ _ h := h
  get_put _ _ _ := rfl

/-- Field `nnn` (R112). -/
def regField : OperandField Reg where
  mask := 0xF8#8
  get b0 := some (fieldReg b0)
  put := withReg
  put_get := forall_byte (by decide +kernel)
  mask_put := forall_byte (by decide +kernel)
  get_put := forall_byte (by decide +kernel)

/-- Field `r` (R113). -/
def ptrField : OperandField Ptr where
  mask := 0xFE#8
  get b0 := some (fieldPtr b0)
  put := withPtr
  put_get := forall_byte (by decide +kernel)
  mask_put op r := by cases r <;> revert op <;> exact forall_byte (by decide +kernel)
  get_put op r := by cases r <;> revert op <;> exact forall_byte (by decide +kernel)

/-- Field `pp` (R115). -/
def portField : OperandField Port where
  mask := 0xFC#8
  get := fieldPort
  put := withPort
  put_get := forall_byte (by decide +kernel)
  mask_put op p := by cases p <;> revert op <;> exact forall_byte (by decide +kernel)
  get_put op p := by cases p <;> revert op <;> exact forall_byte (by decide +kernel)

/-- Field `qq` (R120). -/
def ioPortField : OperandField IoPort where
  mask := 0xFC#8
  get := fieldIoPort
  put := withIoPort
  put_get := forall_byte (by decide +kernel)
  mask_put op p := by cases p <;> revert op <;> exact forall_byte (by decide +kernel)
  get_put op p := by cases p <;> revert op <;> exact forall_byte (by decide +kernel)

/-- Field `ee` (R116). -/
def expField : OperandField ExpPort where
  mask := 0xFC#8
  get b0 := some (fieldExp b0)
  put := withExp
  put_get := forall_byte (by decide +kernel)
  mask_put op e := by cases e <;> revert op <;> exact forall_byte (by decide +kernel)
  get_put op e := by cases e <;> revert op <;> exact forall_byte (by decide +kernel)

/-- Field `bbb` (R121). -/
def bitField : OperandField (Fin 8) where
  mask := 0x1F#8
  get b0 := some (fieldBit b0)
  put := withBit
  put_get := forall_byte (by decide +kernel)
  mask_put := forall_byte (by decide +kernel)
  get_put := forall_byte (by decide +kernel)

/-- Field `k` (R125). -/
def bankField : OperandField Bool where
  mask := 0xEF#8
  get b0 := some (fieldBank b0)
  put := withBank
  put_get := forall_byte (by decide +kernel)
  mask_put := forall_byte (by decide +kernel)
  get_put := forall_byte (by decide +kernel)

/-- Bits 10:8 of an address, in bits 7:5 of byte 0 (R117, R126). -/
def addrField : OperandField (BitVec 3) where
  mask := 0x1F#8
  get b0 := some (b0.extractLsb' 5 3)
  put op h := op ||| (h ++ 0#5)
  put_get := forall_byte (by decide +kernel)
  mask_put := forall_byte (by decide +kernel)
  get_put := forall_byte (by decide +kernel)

/-- A selected row by its operand field: the opcode has zeros in the field, and the row's instructions are encoded as
the opcode with the operand put into its field, and byte 1 where there is one. -/
structure RowFormat where
  {α : Type}
  field : OperandField α
  op : Byte
  instr : α → Byte → Instr
  op_masked : op &&& field.mask = op
  encode_instr : ∀ x v, wellFormed (instr x v) = true ∧
    encode (instr x v) = [field.put op x, v].take (instrLength (instr x v))

/-- A format whose conditions hold by evaluation. -/
def rowFormat {α : Type} (F : OperandField α) (op : Byte) (instr : α → Byte → Instr)
    (op_masked : op &&& F.mask = op := by decide)
    (encode_instr : ∀ x v, wellFormed (instr x v) = true ∧
      encode (instr x v) = [F.put op x, v].take (instrLength (instr x v)) := by exact fun _ _ => ⟨rfl, rfl⟩) :
    RowFormat := ⟨F, op, instr, op_masked, encode_instr⟩

/-- The row of the table that a format describes. -/
def RowFormat.row (R : RowFormat) : Row := ⟨R.field.mask, R.op, fun b0 b1 => (R.field.get b0).map (R.instr · b1)⟩

/-- An 11-bit address is encoded as its upper bits in byte 0 and its lower bits in byte 1. -/
theorem encode_addr_bytes (op : Byte) (h : BitVec 3) (v : Byte) :
    [withAddrHigh op (h ++ v), (h ++ v).extractLsb' 0 8] = [addrField.put op h, v] := by
  have hhigh : (h ++ v).extractLsb' 8 3 = h := by
    apply BitVec.eq_of_toNat_eq
    rw [toNat_extract_eq, toNat_append_eq]
    omega
  have hlow : (h ++ v).extractLsb' 0 8 = v := by
    apply BitVec.eq_of_toNat_eq
    rw [toNat_extract_eq, toNat_append_eq]
    omega
  rw [withAddrHigh, hhigh, hlow]
  rfl

theorem extract_append_extract (a : Addr11) : a.extractLsb' 8 3 ++ a.extractLsb' 0 8 = a := by
  apply BitVec.eq_of_toNat_eq
  rw [toNat_append_eq, toNat_extract_eq, toNat_extract_eq]
  omega

/-- The 92 selected rows by their fields, in the table's order. -/
def formats : List RowFormat :=
  [rowFormat regField 0x68#8 fun n _ => .addAR n,
   rowFormat ptrField 0x60#8 fun r _ => .addAInd r,
   rowFormat fixedField 0x03#8 fun _ v => .addAImm v,
   rowFormat regField 0x78#8 fun n _ => .addcAR n,
   rowFormat ptrField 0x70#8 fun r _ => .addcAInd r,
   rowFormat fixedField 0x13#8 fun _ v => .addcAImm v,
   rowFormat regField 0x58#8 fun n _ => .anlAR n,
   rowFormat ptrField 0x50#8 fun r _ => .anlAInd r,
   rowFormat fixedField 0x53#8 fun _ v => .anlAImm v,
   rowFormat portField 0x98#8 fun p v => .anlPort p v,
   rowFormat expField 0x9C#8 fun e _ => .anldEp e,
   rowFormat addrField 0x14#8 (fun h v => .call (h ++ v)) (by decide) fun h v => ⟨rfl, encode_addr_bytes 0x14#8 h v⟩,
   rowFormat fixedField 0x27#8 fun _ _ => .clrA,
   rowFormat fixedField 0x97#8 fun _ _ => .clrC,
   rowFormat fixedField 0x85#8 fun _ _ => .clrF0,
   rowFormat fixedField 0xA5#8 fun _ _ => .clrF1,
   rowFormat fixedField 0x37#8 fun _ _ => .cplA,
   rowFormat fixedField 0xA7#8 fun _ _ => .cplC,
   rowFormat fixedField 0x95#8 fun _ _ => .cplF0,
   rowFormat fixedField 0xB5#8 fun _ _ => .cplF1,
   rowFormat fixedField 0x57#8 fun _ _ => .daA,
   rowFormat fixedField 0x07#8 fun _ _ => .decA,
   rowFormat regField 0xC8#8 fun n _ => .decR n,
   rowFormat fixedField 0x15#8 fun _ _ => .disI,
   rowFormat fixedField 0x35#8 fun _ _ => .disTcnti,
   rowFormat regField 0xE8#8 fun n v => .djnz n v,
   rowFormat fixedField 0x05#8 fun _ _ => .enI,
   rowFormat fixedField 0x25#8 fun _ _ => .enTcnti,
   rowFormat fixedField 0x75#8 fun _ _ => .ent0Clk,
   rowFormat ioPortField 0x08#8 fun p _ => .inAP p,
   rowFormat fixedField 0x17#8 fun _ _ => .incA,
   rowFormat regField 0x18#8 fun n _ => .incR n,
   rowFormat ptrField 0x10#8 fun r _ => .incInd r,
   rowFormat fixedField 0x08#8 fun _ _ => .insABus,
   rowFormat bitField 0x12#8 fun b v => .jbn b v,
   rowFormat fixedField 0xF6#8 fun _ v => .jc v,
   rowFormat fixedField 0xB6#8 fun _ v => .jf0 v,
   rowFormat fixedField 0x76#8 fun _ v => .jf1 v,
   rowFormat addrField 0x04#8 (fun h v => .jmp (h ++ v)) (by decide) fun h v => ⟨rfl, encode_addr_bytes 0x04#8 h v⟩,
   rowFormat fixedField 0xB3#8 fun _ _ => .jmpp,
   rowFormat fixedField 0xE6#8 fun _ v => .jnc v,
   rowFormat fixedField 0x86#8 fun _ v => .jni v,
   rowFormat fixedField 0x26#8 fun _ v => .jnt0 v,
   rowFormat fixedField 0x46#8 fun _ v => .jnt1 v,
   rowFormat fixedField 0x96#8 fun _ v => .jnz v,
   rowFormat fixedField 0x16#8 fun _ v => .jtf v,
   rowFormat fixedField 0x36#8 fun _ v => .jt0 v,
   rowFormat fixedField 0x56#8 fun _ v => .jt1 v,
   rowFormat fixedField 0xC6#8 fun _ v => .jz v,
   rowFormat fixedField 0x23#8 fun _ v => .movAImm v,
   rowFormat fixedField 0xC7#8 fun _ _ => .movAPsw,
   rowFormat regField 0xF8#8 fun n _ => .movAR n,
   rowFormat ptrField 0xF0#8 fun r _ => .movAInd r,
   rowFormat fixedField 0x42#8 fun _ _ => .movAT,
   rowFormat fixedField 0xD7#8 fun _ _ => .movPswA,
   rowFormat regField 0xA8#8 fun n _ => .movRA n,
   rowFormat regField 0xB8#8 fun n v => .movRImm n v,
   rowFormat ptrField 0xA0#8 fun r _ => .movIndA r,
   rowFormat ptrField 0xB0#8 fun r v => .movIndImm r v,
   rowFormat fixedField 0x62#8 fun _ _ => .movTA,
   rowFormat expField 0x0C#8 fun e _ => .movdAEp e,
   rowFormat expField 0x3C#8 fun e _ => .movdEpA e,
   rowFormat fixedField 0xA3#8 fun _ _ => .movpA,
   rowFormat fixedField 0xE3#8 fun _ _ => .movp3A,
   rowFormat ptrField 0x80#8 fun r _ => .movxAInd r,
   rowFormat ptrField 0x90#8 fun r _ => .movxIndA r,
   rowFormat fixedField 0x00#8 fun _ _ => .nop,
   rowFormat regField 0x48#8 fun n _ => .orlAR n,
   rowFormat ptrField 0x40#8 fun r _ => .orlAInd r,
   rowFormat fixedField 0x43#8 fun _ v => .orlAImm v,
   rowFormat portField 0x88#8 fun p v => .orlPort p v,
   rowFormat expField 0x8C#8 fun e _ => .orldEp e,
   rowFormat fixedField 0x02#8 fun _ _ => .outlBus,
   rowFormat ioPortField 0x38#8 fun p _ => .outlP p,
   rowFormat fixedField 0x83#8 fun _ _ => .ret,
   rowFormat fixedField 0x93#8 fun _ _ => .retr,
   rowFormat fixedField 0xE7#8 fun _ _ => .rlA,
   rowFormat fixedField 0xF7#8 fun _ _ => .rlcA,
   rowFormat fixedField 0x77#8 fun _ _ => .rrA,
   rowFormat fixedField 0x67#8 fun _ _ => .rrcA,
   rowFormat bankField 0xE5#8 fun k _ => .selMb k,
   rowFormat bankField 0xC5#8 fun k _ => .selRb k,
   rowFormat fixedField 0x65#8 fun _ _ => .stopTcnt,
   rowFormat fixedField 0x45#8 fun _ _ => .strtCnt,
   rowFormat fixedField 0x55#8 fun _ _ => .strtT,
   rowFormat fixedField 0x47#8 fun _ _ => .swapA,
   rowFormat regField 0x28#8 fun n _ => .xchAR n,
   rowFormat ptrField 0x20#8 fun r _ => .xchAInd r,
   rowFormat ptrField 0x30#8 fun r _ => .xchdAInd r,
   rowFormat regField 0xD8#8 fun n _ => .xrlAR n,
   rowFormat ptrField 0xD0#8 fun r _ => .xrlAInd r,
   rowFormat fixedField 0xD3#8 fun _ v => .xrlAImm v]

theorem decodeTable_eq_map_formats : decodeTable = formats.map RowFormat.row := rfl

/-- A row reads an instruction exactly from the first bytes that carry its operand. -/
theorem read_row_eq_some_iff (R : RowFormat) (b0 b1 : Byte) (i : Instr) :
    Row.read b0 b1 R.row = some i ↔ ∃ x, b0 = R.field.put R.op x ∧ i = R.instr x b1 := by
  constructor
  · intro h
    have hmask : b0 &&& R.field.mask = R.op := by
      by_contra hne
      simp [Row.read, RowFormat.row, hne] at h
    have hget : (R.field.get b0).map (R.instr · b1) = some i := by
      simpa only [Row.read, RowFormat.row, hmask, if_true] using h
    obtain ⟨x, hx, hi⟩ := Option.map_eq_some_iff.1 hget
    exact ⟨x, hmask ▸ (R.field.put_get b0 x hx).symm, hi.symm⟩
  · rintro ⟨x, rfl, rfl⟩
    simp [Row.read, RowFormat.row, R.field.mask_put R.op x R.op_masked, R.field.get_put R.op x R.op_masked]

/-! One row for a first byte. -/

/-- Whether a row matches a first byte, on numbers. Byte 1 has no part in it (`isSome_read_row`). -/
def rowMatches (b0 : Byte) (r : Row) : Bool :=
  Nat.beq (b0.toNat &&& r.mask.toNat) r.bits.toNat && (r.make b0 0x00#8).isSome

theorem isSome_read_row (R : RowFormat) (b0 b1 : Byte) : (Row.read b0 b1 R.row).isSome = rowMatches b0 R.row := by
  have hmask : Nat.beq (b0.toNat &&& R.row.mask.toNat) R.row.bits.toNat = decide (b0 &&& R.row.mask = R.row.bits) := by
    rw [← BitVec.toNat_and, Bool.eq_iff_iff, Nat.beq_eq, decide_eq_true_iff, BitVec.toNat_inj]
  rw [rowMatches, hmask, Row.read]
  by_cases h : b0 &&& R.row.mask = R.row.bits
  · rw [if_pos h, decide_eq_true h, Bool.true_and]
    simp only [RowFormat.row, Option.isSome_map]
  · rw [if_neg h, decide_eq_false h, Bool.false_and, Option.isSome_none]

/-- The table of first bytes: one row, or none for the 26 (R131, R135). -/
theorem countP_rowMatches (b0 : Byte) :
    decodeTable.countP (rowMatches b0) = if b0 ∈ undefinedOpcodes then 0 else 1 := by
  revert b0
  exact forall_byte (by decide +kernel)

theorem length_filter_read (b0 b1 : Byte) :
    (decodeTable.filter fun r => (Row.read b0 b1 r).isSome).length = decodeTable.countP (rowMatches b0) := by
  rw [List.countP_eq_length_filter]
  congr 1
  apply List.filter_congr
  rw [decodeTable_eq_map_formats]
  intro r hr
  obtain ⟨R, -, rfl⟩ := List.mem_map.1 hr
  exact isSome_read_row R b0 b1

/-- Settles O4: the count does not depend on byte 1, and is read off for the 256 first bytes. -/
theorem oneRowPerOpcode : Obligations.OneRowPerOpcode := fun b0 b1 =>
  (length_filter_read b0 b1).trans (countP_rowMatches b0)

/-- The first result of a search is the only one, where at most one element has a result. -/
theorem findSome?_eq_some_of_unique {α β : Type} {f : α → Option β} {l : List α} {x : α} {y : β}
    (hone : (l.filter fun z => (f z).isSome).length ≤ 1) (hx : x ∈ l) (hf : f x = some y) : l.findSome? f = some y := by
  induction l with
  | nil => cases hx
  | cons z l ih =>
    cases hz : f z with
    | none =>
      have hxl : x ∈ l := by
        rcases List.mem_cons.1 hx with rfl | hxl
        · rw [hz] at hf; cases hf
        · exact hxl
      rw [List.findSome?_cons_of_isNone (by simp [hz])]
      exact ih (by simpa [List.filter_cons, hz] using hone) hxl
    | some w =>
      rw [List.findSome?_cons_of_isSome (by simp [hz])]
      rcases List.mem_cons.1 hx with rfl | hxl
      · exact hf
      · have hmem : x ∈ l.filter fun z => (f z).isSome := List.mem_filter.2 ⟨hxl, by simp [hf]⟩
        have hpos := List.length_pos_of_mem hmem
        simp only [List.filter_cons, hz, Option.isSome_some, if_true, List.length_cons] at hone
        omega

/-- What a pair of bytes decodes to: an instruction of the one format whose field byte 0 carries (R129). -/
theorem decodePair_eq_some_iff (b0 b1 : Byte) (i : Instr) :
    decodePair b0 b1 = some i ↔ ∃ R ∈ formats, ∃ x, b0 = R.field.put R.op x ∧ i = R.instr x b1 := by
  constructor
  · intro h
    obtain ⟨r, hr, hread⟩ := List.exists_of_findSome?_eq_some h
    rw [decodeTable_eq_map_formats] at hr
    obtain ⟨R, hR, rfl⟩ := List.mem_map.1 hr
    exact ⟨R, hR, (read_row_eq_some_iff R b0 b1 i).1 hread⟩
  · rintro ⟨R, hR, hx⟩
    have hone : (decodeTable.filter fun r => (Row.read b0 b1 r).isSome).length ≤ 1 := by
      rw [oneRowPerOpcode b0 b1]
      split <;> decide
    exact findSome?_eq_some_of_unique hone
      (decodeTable_eq_map_formats ▸ List.mem_map_of_mem hR) ((read_row_eq_some_iff R b0 b1 i).2 hx)

/-- No instruction is decoded exactly where byte 0 is one of the 26 (R131). -/
theorem decodePair_eq_none_iff (b0 b1 : Byte) : decodePair b0 b1 = none ↔ b0 ∈ undefinedOpcodes := by
  have hcount := oneRowPerOpcode b0 b1
  rw [decodePair, List.findSome?_eq_none_iff]
  constructor
  · intro hnone
    by_contra hb
    have hempty : (decodeTable.filter fun r => (Row.read b0 b1 r).isSome) = [] :=
      List.filter_eq_nil_iff.2 fun r hr => by simp [hnone r hr]
    simp [hempty, hb] at hcount
  · intro hb r hr
    rw [if_pos hb, List.length_eq_zero_iff, List.filter_eq_nil_iff] at hcount
    simpa using hcount r hr

/-! From bytes to the instruction and back. -/

theorem instrLength_eq_one_or_two (i : Instr) : instrLength i = 1 ∨ instrLength i = 2 := by
  cases i <;> simp [instrLength]

/-- A decoded instruction is well formed, and the bytes it was read from are its encoding. -/
theorem encode_of_decodePair {b0 b1 : Byte} {i : Instr} (h : decodePair b0 b1 = some i) :
    wellFormed i = true ∧ encode i = [b0, b1].take (instrLength i) := by
  obtain ⟨R, -, x, rfl, rfl⟩ := (decodePair_eq_some_iff b0 b1 i).1 h
  exact R.encode_instr x b1

/-- The bytes of a format's instruction decode to it; `k` is the row's place in the table. -/
theorem decodePair_format (k : Nat) {R : RowFormat} (hR : formats[k]? = some R) (x : R.α) (v : Byte) :
    decodePair (R.field.put R.op x) v = some (R.instr x v) :=
  (decodePair_eq_some_iff _ _ _).2 ⟨R, List.mem_of_getElem? hR, x, rfl, rfl⟩

/-- The row of a long jump or call decodes its encoding, the address being in both bytes. -/
theorem decodePair_addr_format (k : Nat) {op : Byte} {f : Addr11 → Instr} {hop hf}
    (hR : formats[k]? = some (rowFormat addrField op (fun h v => f (h ++ v)) hop hf)) (a : Addr11) :
    decodePair (withAddrHigh op a) (a.extractLsb' 0 8) = some (f a) := by
  have h := decodePair_format k hR (a.extractLsb' 8 3) (a.extractLsb' 0 8)
  have hinstr : (rowFormat addrField op (fun h v => f (h ++ v)) hop hf).instr (a.extractLsb' 8 3) (a.extractLsb' 0 8) =
      f a := congrArg f (extract_append_extract a)
  rwa [hinstr] at h

/-- The first two bytes from an encoded instruction on decode to it, whatever follows. -/
theorem decodePair_encode (rest : List Byte) : ∀ i : Instr, wellFormed i = true →
    decodePair ((encode i).headD 0) (((encode i).tail ++ rest).headD 0) = some i
  | .addAR n, _ => decodePair_format 0 rfl n _
  | .addAInd r, _ => decodePair_format 1 rfl r _
  | .addAImm v, _ => decodePair_format 2 rfl () v
  | .addcAR n, _ => decodePair_format 3 rfl n _
  | .addcAInd r, _ => decodePair_format 4 rfl r _
  | .addcAImm v, _ => decodePair_format 5 rfl () v
  | .anlAR n, _ => decodePair_format 6 rfl n _
  | .anlAInd r, _ => decodePair_format 7 rfl r _
  | .anlAImm v, _ => decodePair_format 8 rfl () v
  | .anlPort p v, _ => decodePair_format 9 rfl p v
  | .anldEp e, _ => decodePair_format 10 rfl e _
  | .call a, _ => decodePair_addr_format (f := .call) 11 rfl a
  | .clrA, _ => decodePair_format 12 rfl () _
  | .clrC, _ => decodePair_format 13 rfl () _
  | .clrF0, _ => decodePair_format 14 rfl () _
  | .clrF1, _ => decodePair_format 15 rfl () _
  | .cplA, _ => decodePair_format 16 rfl () _
  | .cplC, _ => decodePair_format 17 rfl () _
  | .cplF0, _ => decodePair_format 18 rfl () _
  | .cplF1, _ => decodePair_format 19 rfl () _
  | .daA, _ => decodePair_format 20 rfl () _
  | .decA, _ => decodePair_format 21 rfl () _
  | .decR n, _ => decodePair_format 22 rfl n _
  | .disI, _ => decodePair_format 23 rfl () _
  | .disTcnti, _ => decodePair_format 24 rfl () _
  | .djnz n v, _ => decodePair_format 25 rfl n v
  | .enI, _ => decodePair_format 26 rfl () _
  | .enTcnti, _ => decodePair_format 27 rfl () _
  | .ent0Clk, _ => decodePair_format 28 rfl () _
  | .inAP p, _ => decodePair_format 29 rfl p _
  | .incA, _ => decodePair_format 30 rfl () _
  | .incR n, _ => decodePair_format 31 rfl n _
  | .incInd r, _ => decodePair_format 32 rfl r _
  | .insABus, _ => decodePair_format 33 rfl () _
  | .jbn b v, _ => decodePair_format 34 rfl b v
  | .jc v, _ => decodePair_format 35 rfl () v
  | .jf0 v, _ => decodePair_format 36 rfl () v
  | .jf1 v, _ => decodePair_format 37 rfl () v
  | .jmp a, _ => decodePair_addr_format (f := .jmp) 38 rfl a
  | .jmpp, _ => decodePair_format 39 rfl () _
  | .jnc v, _ => decodePair_format 40 rfl () v
  | .jni v, _ => decodePair_format 41 rfl () v
  | .jnt0 v, _ => decodePair_format 42 rfl () v
  | .jnt1 v, _ => decodePair_format 43 rfl () v
  | .jnz v, _ => decodePair_format 44 rfl () v
  | .jtf v, _ => decodePair_format 45 rfl () v
  | .jt0 v, _ => decodePair_format 46 rfl () v
  | .jt1 v, _ => decodePair_format 47 rfl () v
  | .jz v, _ => decodePair_format 48 rfl () v
  | .movAImm v, _ => decodePair_format 49 rfl () v
  | .movAPsw, _ => decodePair_format 50 rfl () _
  | .movAR n, _ => decodePair_format 51 rfl n _
  | .movAInd r, _ => decodePair_format 52 rfl r _
  | .movAT, _ => decodePair_format 53 rfl () _
  | .movPswA, _ => decodePair_format 54 rfl () _
  | .movRA n, _ => decodePair_format 55 rfl n _
  | .movRImm n v, _ => decodePair_format 56 rfl n v
  | .movIndA r, _ => decodePair_format 57 rfl r _
  | .movIndImm r v, _ => decodePair_format 58 rfl r v
  | .movTA, _ => decodePair_format 59 rfl () _
  | .movdAEp e, _ => decodePair_format 60 rfl e _
  | .movdEpA e, _ => decodePair_format 61 rfl e _
  | .movpA, _ => decodePair_format 62 rfl () _
  | .movp3A, _ => decodePair_format 63 rfl () _
  | .movxAInd r, _ => decodePair_format 64 rfl r _
  | .movxIndA r, _ => decodePair_format 65 rfl r _
  | .nop, _ => decodePair_format 66 rfl () _
  | .orlAR n, _ => decodePair_format 67 rfl n _
  | .orlAInd r, _ => decodePair_format 68 rfl r _
  | .orlAImm v, _ => decodePair_format 69 rfl () v
  | .orlPort p v, _ => decodePair_format 70 rfl p v
  | .orldEp e, _ => decodePair_format 71 rfl e _
  | .outlBus, _ => decodePair_format 72 rfl () _
  | .outlP p, _ => decodePair_format 73 rfl p _
  | .ret, _ => decodePair_format 74 rfl () _
  | .retr, _ => decodePair_format 75 rfl () _
  | .rlA, _ => decodePair_format 76 rfl () _
  | .rlcA, _ => decodePair_format 77 rfl () _
  | .rrA, _ => decodePair_format 78 rfl () _
  | .rrcA, _ => decodePair_format 79 rfl () _
  | .selMb k, _ => decodePair_format 80 rfl k _
  | .selRb k, _ => decodePair_format 81 rfl k _
  | .stopTcnt, _ => decodePair_format 82 rfl () _
  | .strtCnt, _ => decodePair_format 83 rfl () _
  | .strtT, _ => decodePair_format 84 rfl () _
  | .swapA, _ => decodePair_format 85 rfl () _
  | .xchAR n, _ => decodePair_format 86 rfl n _
  | .xchAInd r, _ => decodePair_format 87 rfl r _
  | .xchdAInd r, _ => decodePair_format 88 rfl r _
  | .xrlAR n, _ => decodePair_format 89 rfl n _
  | .xrlAInd r, _ => decodePair_format 90 rfl r _
  | .xrlAImm v, _ => decodePair_format 91 rfl () v

/-- The encoding is as long as the instruction (R110). -/
theorem length_encode (i : Instr) : (encode i).length = instrLength i := by
  cases i <;> rfl

/-- What `decode` answers for bytes that begin with `b0`. -/
theorem decode_cons_eq_ok_iff (b0 : Byte) (l rest : List Byte) (i : Instr) :
    decode (b0 :: l) = .ok (i, rest) ↔
      decodePair b0 (l.headD 0) = some i ∧ instrLength i ≤ l.length + 1 ∧ rest = (b0 :: l).drop (instrLength i) := by
  cases hpair : decodePair b0 (l.headD 0) with
  | none => simp only [decode, hpair, reduceCtorEq, false_and]
  | some j =>
    simp only [decode, hpair, List.length_cons, Option.some.injEq]
    split
    next hlen =>
      simp only [Except.ok.injEq, Prod.mk.injEq]
      constructor
      · rintro ⟨rfl, hrest⟩
        exact ⟨rfl, hlen, hrest.symm⟩
      · rintro ⟨rfl, -, hrest⟩
        exact ⟨rfl, hrest.symm⟩
    next hlen =>
      simp only [reduceCtorEq, false_iff]
      rintro ⟨rfl, hle, -⟩
      exact hlen hle

/-- Settles O2: the encoding's own bytes are all that the decoder looks at, and it drops exactly them. -/
theorem decodeOfEncode : Obligations.DecodeOfEncode := by
  intro i rest hwf
  have hlen := length_encode i
  have hpair := decodePair_encode rest i hwf
  cases hbytes : encode i with
  | nil =>
    rw [hbytes] at hlen
    rcases instrLength_eq_one_or_two i with h | h <;> simp [h] at hlen
  | cons b0 tl =>
    rw [hbytes] at hlen hpair
    refine (decode_cons_eq_ok_iff b0 (tl ++ rest) rest i).2 ⟨hpair, ?_, ?_⟩
    · rw [← hlen, List.length_cons, List.length_append]
      omega
    · rw [← hlen, ← List.cons_append, List.drop_left]

/-- Settles O3: the row that decoded the bytes encodes its instruction as them. -/
theorem encodeOfDecode : Obligations.EncodeOfDecode := by
  intro bytes rest i h
  cases bytes with
  | nil => cases h
  | cons b0 l =>
    obtain ⟨hpair, hlen, rfl⟩ := (decode_cons_eq_ok_iff b0 l rest i).1 h
    obtain ⟨hwf, henc⟩ := encode_of_decodePair hpair
    refine ⟨hwf, ?_⟩
    rcases instrLength_eq_one_or_two i with hone | htwo
    · simp [henc, hone]
    · cases l with
      | nil => simp [htwo] at hlen
      | cons b1 l => simp [henc, htwo]

/-- Settles O1: each word is the encoding of the instruction that the spec names. -/
theorem specWordsDecode : Obligations.SpecWordsDecode :=
  ⟨decodeOfEncode (.addAR 5) [] rfl, decodeOfEncode (.addAImm 0x3C#8) [] rfl,
    decodeOfEncode (.anlPort .p2 0x0F#8) [] rfl, decodeOfEncode (.movdAEp .p6) [] rfl,
    decodeOfEncode (.jmp 0x5A7#11) [] rfl, decodeOfEncode (.djnz 3 0x40#8) [] rfl, decodeOfEncode (.inAP .p2) [] rfl,
    decodeOfEncode (.jbn 5 0x77#8) [] rfl, decodeOfEncode (.movIndImm .r1 0x01#8) [] rfl,
    decodeOfEncode (.selMb true) [] rfl⟩

/-- Settles O34: `JOBF` is the one instruction that is not well formed, and what decodes is well formed. -/
theorem jobfIsForeign : Obligations.JobfIsForeign := by
  refine fun s l => ⟨rfl, fun bytes rest hdec => ?_⟩
  obtain ⟨hwf, -⟩ := encodeOfDecode bytes rest (.jobf l) hdec
  exact absurd hwf (by simp [wellFormed, rowSelected])

end Sys2Proof.Proofs
end

section
/-! SUPPORT. The canonical form of a memory determines it from what it reads as, and the working registers are bytes of
RAM (20_memory.md R80 to R82, 10_state.md R33). -/

namespace Sys2Proof.Proofs

open Sys2Proof.Machine Sys2Proof.Claims

/-! Canonical memories. -/

theorem wfFrom_cons_iff {sp : Space} {size lo k : Nat} {v : Byte} {m : Memory} :
    Memory.wfFrom sp size lo ((k, v) :: m) = true ↔
      lo ≤ k ∧ k < size ∧ Memory.fill sp ≠ some v ∧ Memory.wfFrom sp size (k + 1) m = true := by
  simp only [Memory.wfFrom, Bool.and_eq_true, decide_eq_true_eq, and_assoc]

/-- Nothing is listed below the first address. -/
theorem lookup_below {sp : Space} {size : Nat} {m : Memory} : ∀ {lo a : Nat}, Memory.wfFrom sp size lo m = true →
    a < lo → Memory.lookup m a = none := by
  induction m with
  | nil => intros; rfl
  | cons e m ih =>
    obtain ⟨k, v⟩ := e
    intro lo a hwf ha
    obtain ⟨hlo, -, -, htail⟩ := wfFrom_cons_iff.1 hwf
    rw [Memory.lookup, if_neg (by omega)]
    exact ih htail (by omega)

/-- No entry equals what an unlisted address reads as. -/
theorem lookup_ne_fill {sp : Space} {size : Nat} {m : Memory} : ∀ {lo a : Nat} {v : Byte},
    Memory.wfFrom sp size lo m = true → Memory.lookup m a = some v → Memory.fill sp ≠ some v := by
  induction m with
  | nil => intro lo a v _ h; cases h
  | cons e m ih =>
    obtain ⟨k, w⟩ := e
    intro lo a v hwf hlook
    obtain ⟨-, -, hfill, htail⟩ := wfFrom_cons_iff.1 hwf
    rw [Memory.lookup] at hlook
    split at hlook
    · cases hlook; exact hfill
    · exact ih htail hlook

/-- In canonical form the bytes read determine the bytes listed. -/
theorem lookup_eq_of_read_eq {sp : Space} {size lo lo' : Nat} {m m' : Memory} (hm : Memory.wfFrom sp size lo m = true)
    (hm' : Memory.wfFrom sp size lo' m' = true) {a : Nat} (h : Memory.read sp m a = Memory.read sp m' a) :
    Memory.lookup m a = Memory.lookup m' a := by
  unfold Memory.read at h
  cases hv : Memory.lookup m a with
  | none =>
    cases hv' : Memory.lookup m' a with
    | none => rfl
    | some v' => rw [hv, hv'] at h; exact absurd h (lookup_ne_fill hm' hv')
  | some v =>
    cases hv' : Memory.lookup m' a with
    | none => rw [hv, hv'] at h; exact absurd h.symm (lookup_ne_fill hm hv)
    | some v' => rw [hv, hv'] at h; exact h

/-- The first address that a canonical memory lists is not below the first of another one that lists the same. -/
theorem first_le_of_lookup_eq {sp : Space} {size lo k k' : Nat} {v v' : Byte} {m m' : Memory}
    (hm' : Memory.wfFrom sp size lo ((k', v') :: m') = true)
    (h : ∀ a, Memory.lookup ((k, v) :: m) a = Memory.lookup ((k', v') :: m') a) : k' ≤ k := by
  by_contra hlt
  obtain ⟨-, hsize, hfill, htail⟩ := wfFrom_cons_iff.1 hm'
  have hnone : Memory.lookup ((k', v') :: m') k = none :=
    lookup_below (wfFrom_cons_iff.2 ⟨Nat.le_refl k', hsize, hfill, htail⟩) (by omega)
  have hsome : Memory.lookup ((k, v) :: m) k = some v := by rw [Memory.lookup, if_pos rfl]
  rw [← h k, hsome] at hnone
  cases hnone

/-- Rising lists with the same entries are equal, entry by entry. -/
theorem eq_of_lookup_eq {sp : Space} {size : Nat} {m : Memory} : ∀ {m' : Memory} {lo lo' : Nat},
    Memory.wfFrom sp size lo m = true → Memory.wfFrom sp size lo' m' = true →
    (∀ a, Memory.lookup m a = Memory.lookup m' a) → m = m' := by
  induction m with
  | nil =>
    intro m' lo lo' _ _ h
    cases m' with
    | nil => rfl
    | cons e m' =>
      have hfirst := h e.1
      rw [Memory.lookup, Memory.lookup, if_pos rfl] at hfirst
      cases hfirst
  | cons e m ih =>
    obtain ⟨k, v⟩ := e
    intro m' lo lo' hm hm' h
    cases m' with
    | nil =>
      have hfirst := h k
      rw [Memory.lookup, Memory.lookup, if_pos rfl] at hfirst
      cases hfirst
    | cons e' m' =>
      obtain ⟨k', v'⟩ := e'
      have hk : k = k' :=
        Nat.le_antisymm (first_le_of_lookup_eq hm fun a => (h a).symm) (first_le_of_lookup_eq hm' h)
      subst hk
      obtain ⟨-, -, -, htail⟩ := wfFrom_cons_iff.1 hm
      obtain ⟨-, -, -, htail'⟩ := wfFrom_cons_iff.1 hm'
      have hfirst := h k
      simp only [Memory.lookup, if_true, Option.some.injEq] at hfirst
      have hrest : ∀ a, Memory.lookup m a = Memory.lookup m' a := by
        intro a
        by_cases hle : a ≤ k
        · rw [lookup_below htail (by omega), lookup_below htail' (by omega)]
        · simpa only [Memory.lookup, if_neg (show a ≠ k by omega)] using h a
      rw [hfirst, ih htail htail' hrest]

/-- Settles O8: the bytes read give the entries, and the rising order gives their places. -/
theorem canonicalMemoriesAreEqual : Obligations.CanonicalMemoriesAreEqual := fun _ _ _ _ hm hm' h =>
  eq_of_lookup_eq hm hm' fun a => lookup_eq_of_read_eq hm hm' (h a)

/-! RAM after one write, as the statements say it. -/

theorem ramAfter_of_write {s t : State} {a : Nat} {v : Byte} (h : t.ram = Memory.write .ram s.ram a v) :
    ramAfter s t a v := fun x =>
  (readRam_congr (s := writeRam a v s) h x).trans (readRam_writeRam a x v s)

/-- A write of one register leaves the others. -/
theorem readReg_writeReg_ne {s : State} {n m : Reg} (h : regAddr s n ≠ regAddr s m) (v : Byte) :
    readReg (writeReg n v s) m = readReg s m := by
  have haddr : regAddr (writeReg n v s) m = regAddr s m := rfl
  rw [readReg, haddr, writeReg, readRam_writeRam, if_neg (Ne.symm h), readReg]

/-- A pointer's address does not change where another register is written. -/
theorem indAddr_writeReg {s : State} {n : Reg} {r : Ptr} (h : regAddr s n ≠ regAddr s (ptrReg r)) (v : Byte) :
    indAddr (writeReg n v s) r = indAddr s r := by
  rw [indAddr, ptrValue, readReg_writeReg_ne h, ramSize_congr (writeReg_params s n v), indAddr, ptrValue]

/-- Settles O9: the first two clauses are the model's definitions; in the third the pointer is another register. -/
theorem registersAreRam : Obligations.RegistersAreRam := by
  refine fun s n r v => ⟨rfl, by cases r <;> rfl, fun hne hind => ?_⟩
  rw [readSource, indAddr_writeReg hne, hind, writeReg, readRam_writeRam, if_pos rfl]

end Sys2Proof.Proofs
end

section
/-! SUPPORT. Program-counter arithmetic in numbers (10_state.md R36, 43_control_transfer.md R219, R220, 20_memory.md
R83). -/

namespace Sys2Proof.Proofs

open Sys2Proof.Machine Sys2Proof.Claims

theorem toNat_incPc (p : Addr12) :
    (incPc p).toNat = if p.toNat % 2048 = 2047 then p.toNat - 2047 else p.toNat + 1 := by
  have hp := p.isLt
  rw [incPc, toNat_append_eq, BitVec.toNat_add, toNat_extract_eq, toNat_extract_eq]
  simp only [BitVec.toNat_ofNat]
  split <;> omega

/-- The page of an address above an offset. -/
theorem toNat_page_append (p : Addr12) (l : Byte) : (p.extractLsb' 8 4 ++ l).toNat = p.toNat / 256 * 256 + l.toNat := by
  have hp := p.isLt
  rw [toNat_append_eq, toNat_extract_eq]
  omega

/-- An address is the page of `p` at offset `l` when its number is. -/
theorem eq_page_append {p q : Addr12} {l : Byte} (h : q.toNat = p.toNat / 256 * 256 + l.toNat) :
    q = p.extractLsb' 8 4 ++ l :=
  BitVec.eq_of_toNat_eq (h.trans (toNat_page_append p l).symm)

theorem toNat_longTarget (s : State) (a : Addr11) :
    (longTarget s a).toNat = (if s.mbf = true ∧ s.iip = false then 2048 else 0) + a.toNat := by
  rw [longTarget, toNat_append_eq]
  cases s.mbf <;> cases s.iip <;> rfl

/-- Settles O26. -/
theorem targetsInNumbers : Obligations.TargetsInNumbers := fun s p l a =>
  ⟨toNat_incPc p, toNat_page_append (incPc s.pc) l, toNat_longTarget s a⟩

/-- `inc` goes to another address. -/
theorem incPc_ne (p : Addr12) : incPc p ≠ p := by
  intro h
  have hnum := toNat_incPc p
  rw [h] at hnum
  split at hnum <;> omega

/-- Bit 11 as a number: the upper half of program memory. -/
theorem getLsbD_eleven (p : Addr12) : p.getLsbD 11 = decide (2048 ≤ p.toNat) := by
  have hp := p.isLt
  rw [BitVec.getLsbD, Nat.testBit_eq_decide_div_mod_eq, decide_eq_decide]
  omega

/-- `inc` stays in the bank (R36). -/
theorem getLsbD_incPc (p : Addr12) : (incPc p).getLsbD 11 = p.getLsbD 11 := by
  have hp := p.isLt
  rw [getLsbD_eleven, getLsbD_eleven, toNat_incPc, decide_eq_decide]
  split <;> omega

theorem getLsbD_afterBytes (n : Nat) (p : Addr12) : (afterBytes n p).getLsbD 11 = p.getLsbD 11 := by
  induction n generalizing p with
  | zero => rfl
  | succ n ih => rw [afterBytes, ih, getLsbD_incPc]

/-- A target in the page of an address is in its bank. -/
theorem getLsbD_page_append (p : Addr12) (l : Byte) : (p.extractLsb' 8 4 ++ l).getLsbD 11 = p.getLsbD 11 := by
  have hp := p.isLt
  have hl := l.isLt
  rw [getLsbD_eleven, getLsbD_eleven, toNat_page_append, decide_eq_decide]
  omega

end Sys2Proof.Proofs
end

section
/-! SUPPORT. What one instruction can do, said once for all rows: where it completes, and the fields that only named
rows write (10_state.md R36, R41 to R45; 20_memory.md R93; 60_exceptions.md R330, R340). -/

namespace Sys2Proof.Proofs

open Sys2Proof.Machine Sys2Proof.Claims

/-! Completion. -/

theorem exec_movxAInd_of_some {s : State} {r : Ptr} {v : Byte} (h : readXram s (ptrValue s r) = some v) :
    exec (.movxAInd r) s = .next (advance 1 { xramReadCycle (ptrValue s r) s with a := v }) := by
  simp only [exec, execMovxAInd, h]

theorem exec_movxAInd_of_none {s : State} {r : Ptr} (h : readXram s (ptrValue s r) = none) :
    exec (.movxAInd r) s = .fault (.uninitialisedXram (ptrValue s r)) := by
  simp only [exec, execMovxAInd, h]

/-- Settles O57: only the `MOVX` read looks at what it finds, and only the ill-formed `JOBF` is refused. -/
theorem everyInstructionCompletes : Obligations.EveryInstructionCompletes := by
  intro i s hwf
  cases i with
  | movxAInd r =>
    cases h : readXram s (ptrValue s r) with
    | none => exact .inr ⟨r, rfl, h, exec_movxAInd_of_none h⟩
    | some v => exact .inl ⟨_, exec_movxAInd_of_some h⟩
  | jobf l => cases hwf
  | _ => exact .inl ⟨_, rfl⟩

/-! What the operations that the rows share keep. -/

/-- A jump within a page stays in the bank, taken or not. -/
theorem getLsbD_branch_pc (taken : Bool) (l : Byte) (s : State) :
    (branch taken l s).pc.getLsbD 11 = s.pc.getLsbD 11 := by
  cases taken
  · exact getLsbD_afterBytes 2 s.pc
  · exact (getLsbD_page_append _ l).trans (getLsbD_incPc s.pc)

/-- `DA A` leaves C where `DA_CARRY` does not let it write it (R157). -/
theorem daFlag_of_ne {mode : DaCarry} (h : mode ≠ .setOnCarry) (a : Byte) (c ac : Bool) : daFlag mode a c ac = c := by
  cases mode with
  | unaffected => rfl
  | setOnCarry => exact absurd rfl h

theorem portWrite_frame (p : Port) (v : Byte) (s : State) :
    portWrite p v s = { s with
      latchBus := (setLatch p v s).latchBus, latchP1 := (setLatch p v s).latchP1,
      latchP2 := (setLatch p v s).latchP2, shown := .latch p v :: s.shown } := by
  rw [portWrite, setLatch_frame]
  rfl

theorem expWrite_frame (e : ExpPort) (v : Nibble) (s : State) :
    expWrite e v s = { s with
      exp4 := (setExp e v s).exp4, exp5 := (setExp e v s).exp5, exp6 := (setExp e v s).exp6,
      exp7 := (setExp e v s).exp7, shown := .expander e v :: s.shown } := by
  rw [expWrite, setExp_frame]
  rfl

/-- A jump on a pin changes PC and makes the draw. -/
theorem branchOnPin_frame (taken : PinLevels → Bool) (l : Byte) (s : State) :
    branchOnPin taken l s = { s with
      pc := (branch (taken (nextPins s)) l s).pc, inputs := s.inputs.tail, draws := s.draws + 1 } := rfl

/-- The sample of T1 that may come before the counter runs changes the sample and the draws. -/
theorem sampleForCounter_frame (s : State) :
    sampleForCounter s = { s with
      t1Prev := (sampleForCounter s).t1Prev, inputs := (sampleForCounter s).inputs,
      draws := (sampleForCounter s).draws } := by
  unfold sampleForCounter
  split <;> rfl

/-! Frames. -/

theorem requestEnabled_same {s t : State} (hirq : t.tirq = s.tirq) (hie : t.ieTcnt = s.ieTcnt)
    (h : requestEnabled s = true) : requestEnabled t = true := by
  rw [requestEnabled, hirq, hie]
  exact h

/-- What an instruction keeps: the parameters and program memory, the invariant of the machine, and, unless the row is
named for it, each field that only named rows write. A field that the row's own equation leaves alone is kept by
evaluation. -/
structure Keeps (i : Instr) (s t : State) : Prop where
  params : t.params = s.params := by rfl
  prog : t.prog = s.prog := by rfl
  memory : memoryWf s = true → memoryWf t = true := by exact memoryWf_same rfl rfl rfl rfl
  request : requestEnabled s = true → requestEnabled t = true := by exact requestEnabled_same rfl rfl
  iip : i ≠ .retr → t.iip = s.iip := by exact fun _ => rfl
  c : mayChangeC s.params i = false → t.c = s.c := by exact fun _ => rfl
  ac : mayChangeAC i = false → t.ac = s.ac := by exact fun _ => rfl
  f0 : mayChangeF0 i = false → t.f0 = s.f0 := by exact fun _ => rfl
  sp : mayChangeSP i = false → t.sp = s.sp := by exact fun _ => rfl
  sequential : isControlTransfer i = false → t.pc = afterBytes (instrLength i) s.pc := by exact fun _ => rfl
  bank : mayChangeBank i = false → t.pc.getLsbD 11 = s.pc.getLsbD 11 := by exact fun _ => getLsbD_afterBytes _ _

theorem exec_keeps {i : Instr} {s t : State} (h : exec i s = .next t) : Keeps i s t := by
  cases i with
  -- A alone, or fields that nothing here speaks of.
  | anlAR | anlAInd | anlAImm | orlAR | orlAInd | orlAImm | xrlAR | xrlAInd | xrlAImm | clrA | cplA | rlA | rrA | swapA
  | decA | incA | movAImm | movAPsw | movAR | movAInd | movAT | movTA | movpA | movp3A | clrF1 | cplF1 | inAP | insABus
  | movdAEp | outlBus | disI | enI | ent0Clk | nop | selMb | selRb | stopTcnt | strtT => cases h; exact {}
  | anlPort | orlPort | outlP => cases h; rw [portWrite_frame]; exact {}
  | anldEp | orldEp | movdEpA => cases h; rw [expWrite_frame]; exact {}
  | movxAInd r =>
    cases hread : readXram s (ptrValue s r) with
    | none => rw [exec_movxAInd_of_none hread] at h; cases h
    | some v => rw [exec_movxAInd_of_some hread] at h; cases h; exact {}
  | strtCnt =>
    cases h
    rw [sampleForCounter_frame]
    exact {}
  -- The status fields.
  | addAR | addAInd | addAImm | addcAR | addcAInd | addcAImm => cases h; exact { c := nofun, ac := nofun }
  | clrC | cplC | rlcA | rrcA => cases h; exact { c := nofun }
  | daA => cases h; exact { c := fun hc => daFlag_of_ne (of_decide_eq_false hc) _ _ _ }
  | clrF0 | cplF0 => cases h; exact { f0 := nofun }
  | movPswA =>
    cases h
    rw [pswWrite_frame]
    exact { c := nofun, ac := nofun, f0 := nofun, sp := nofun }
  -- The memories.
  | decR n | incR n | movRA n | movRImm n | xchAR n =>
    cases h; exact { memory := memoryWf_ram rfl (writeReg_wf n _ s) rfl rfl }
  | incInd r | movIndA r | movIndImm r | xchAInd r | xchdAInd r =>
    cases h; exact { memory := memoryWf_ram rfl (writeInd_wf r _ s) rfl rfl }
  | movxIndA =>
    cases h
    rw [xramWriteCycle_frame]
    exact { memory := memoryWf_xram rfl rfl (writeXram_wf _ _ s) rfl }
  -- The enable of the timer's request.
  | enTcnti => cases h; exact { request := fun _ => Bool.or_true _ }
  | disTcnti => cases h; exact { request := fun _ => rfl }
  -- The program counter.
  | jbn | jc | jf0 | jf1 | jnc | jnz | jz | jtf =>
    cases h; exact { sequential := nofun, bank := fun _ => getLsbD_branch_pc _ _ _ }
  | jni | jnt0 | jnt1 | jt0 | jt1 =>
    cases h
    rw [branchOnPin_frame]
    exact { sequential := nofun, bank := fun _ => getLsbD_branch_pc _ _ s }
  | djnz n =>
    cases h
    exact { memory := memoryWf_ram rfl (writeReg_wf n _ s) rfl rfl, sequential := nofun,
            bank := fun _ => getLsbD_branch_pc _ _ _ }
  | jmpp =>
    cases h
    exact { sequential := nofun, bank := fun _ => (getLsbD_page_append _ _).trans (getLsbD_afterBytes 1 s.pc) }
  | jmp => cases h; exact { sequential := nofun, bank := nofun }
  | call =>
    cases h
    rw [push_frame]
    exact { memory := memoryWf_ram rfl (push_wf _ _ s) rfl rfl, sp := nofun, sequential := nofun, bank := nofun }
  | ret => cases h; exact { sp := nofun, sequential := nofun, bank := nofun }
  | retr =>
    cases h
    rw [returnRestore_frame]
    exact { iip := fun hne => absurd rfl hne, c := nofun, ac := nofun, f0 := nofun, sp := nofun, sequential := nofun,
            bank := nofun }
  | jobf => cases h

/-- Settles O21: a changed field is one that the row is named for. -/
theorem onlyNamedRowsChangeStatusAndBank : Obligations.OnlyNamedRowsChangeStatusAndBank := fun _ _ _ h =>
  have hkeeps := exec_keeps h
  ⟨fun hne => eq_true_of_ne_false (mt hkeeps.c hne), fun hne => eq_true_of_ne_false (mt hkeeps.ac hne),
    fun hne => eq_true_of_ne_false (mt hkeeps.f0 hne), fun hne => eq_true_of_ne_false (mt hkeeps.sp hne),
    fun hne => eq_true_of_ne_false (mt hkeeps.bank hne)⟩

/-- Settles O22. -/
theorem sequentialInstructionsAdvancePc : Obligations.SequentialInstructionsAdvancePc := fun _ _ _ h =>
  (exec_keeps h).sequential

end Sys2Proof.Proofs
end

section
/-! SUPPORT. The timer and the interrupt boundary, clause by clause (60_exceptions.md R337 to R348), and the fixed
values of reset (10_state.md R61). -/

namespace Sys2Proof.Proofs

open Sys2Proof.Machine Sys2Proof.Claims

/-! The timer. -/

theorem incrementT_of_eq {s : State} (h : s.t = 0xFF#8) :
    incrementT s = { s with t := 0x00#8, tf := true, tirq := s.tirq || s.ieTcnt } := if_pos h

theorem incrementT_of_ne {s : State} (h : s.t ≠ 0xFF#8) : incrementT s = { s with t := s.t + 1#8 } := if_neg h

/-- An increment neither reads nor writes the prescaler. -/
theorem incrementT_presc (s : State) (p : BitVec 5) :
    incrementT { s with presc := p } = { incrementT s with presc := p } := by
  by_cases h : s.t = 0xFF#8
  · rw [incrementT_of_eq h, incrementT_of_eq (s := { s with presc := p }) h]
  · rw [incrementT_of_ne h, incrementT_of_ne (s := { s with presc := p }) h]

theorem tick_of_stopped {s : State} (h : s.tmode = .stopped) (n : Nat) : tick n s = s := by
  simp only [tick, h]

theorem tick_of_timer {s : State} (h : s.tmode = .timer) (n : Nat) : tick n s = prescale n s := by
  simp only [tick, h]

theorem tick_of_counter {s : State} (h : s.tmode = .counter) (n : Nat) : tick n s = sampleCycles n s := by
  simp only [tick, h]

theorem prescale_of_le {s : State} {n : Nat} (h : 32 ≤ s.presc.toNat + n) :
    prescale n s = incrementT { s with presc := BitVec.ofNat 5 (s.presc.toNat + n - 32) } := if_pos h

theorem prescale_of_lt {s : State} {n : Nat} (h : s.presc.toNat + n < 32) :
    prescale n s = { s with presc := BitVec.ofNat 5 (s.presc.toNat + n) } := if_neg (Nat.not_le.2 h)

/-- Single cycles that stay below the prescale only add up in the prescaler. -/
theorem iterate_tick_below (n : Nat) : ∀ s : State, s.tmode = .timer → s.presc.toNat + n < 32 →
    (tick 1)^[n] s = { s with presc := BitVec.ofNat 5 (s.presc.toNat + n) } := by
  induction n with
  | zero =>
    intro s _ _
    have hp : BitVec.ofNat 5 (s.presc.toNat + 0) = s.presc := by simp
    rw [hp]
    rfl
  | succ n ih =>
    intro s htimer hlt
    have hp : (BitVec.ofNat 5 (s.presc.toNat + 1)).toNat = s.presc.toNat + 1 := by
      rw [BitVec.toNat_ofNat]; omega
    have hone := (tick_of_timer htimer 1).trans (prescale_of_lt (by omega))
    have hrest := ih { s with presc := BitVec.ofNat 5 (s.presc.toNat + 1) } htimer (by simp only [hp]; omega)
    rw [Function.iterate_succ_apply, hone, hrest]
    simp only [hp, Nat.add_comm n 1, Nat.add_assoc]

/-- The cycle that fills the prescaler increments T once. -/
theorem tick_one_of_full {s : State} (htimer : s.tmode = .timer) (hp : s.presc.toNat = 31) :
    tick 1 s = incrementT { s with presc := 0#5 } := by
  rw [tick_of_timer htimer, prescale_of_le (by omega), hp]

/-- Settles O50: the cycles up to a full prescaler, the one that increments T, and the rest up to the old prescaler. -/
theorem timerModeCounts32Cycles : Obligations.TimerModeCounts32Cycles := by
  intro s htimer
  have hlt := s.presc.isLt
  have hsplit : 32 = s.presc.toNat + (1 + (31 - s.presc.toNat)) := by omega
  have hfull : (BitVec.ofNat 5 (s.presc.toNat + (31 - s.presc.toNat))).toNat = 31 := by
    rw [BitVec.toNat_ofNat]; omega
  have hback : BitVec.ofNat 5 ((0#5).toNat + s.presc.toNat) = s.presc := by simp
  have htimer' : (incrementT s).tmode = .timer := by rw [incrementT_frame]; exact htimer
  calc (tick 1)^[32] s
      = (tick 1)^[s.presc.toNat] (tick 1 ((tick 1)^[31 - s.presc.toNat] s)) := by
        conv_lhs => rw [hsplit]
        rw [Function.iterate_add_apply, Function.iterate_add_apply, Function.iterate_one]
    _ = (tick 1)^[s.presc.toNat] { incrementT s with presc := 0#5 } := by
        have hcycle := tick_one_of_full
          (s := { s with presc := BitVec.ofNat 5 (s.presc.toNat + (31 - s.presc.toNat)) }) htimer hfull
        rw [iterate_tick_below _ s htimer (by omega), hcycle]
        exact congrArg _ (incrementT_presc s 0#5)
    _ = { incrementT s with presc := s.presc } := by
        have hrest := iterate_tick_below s.presc.toNat { incrementT s with presc := 0#5 } htimer'
          (by simp only [BitVec.toNat_ofNat]; omega)
        rw [hrest, hback]
    _ = incrementT s := by rw [incrementT_frame]

/-- Settles O51. -/
theorem timerTickAndOverflow : Obligations.TimerTickAndOverflow := by
  refine fun s n hn => ⟨?overflow, ?up, fun h => tick_of_stopped h n, ?passes, ?below⟩
  case overflow =>
    intro h
    rw [incrementT_of_eq (BitVec.eq_of_toNat_eq h)]
    cases s.ieTcnt <;> simp
  case up =>
    intro h
    refine ⟨_, incrementT_of_ne fun h' => h (by rw [h']; rfl), ?_, rfl⟩
    have hlt := s.t.isLt
    rw [toNat_byte_add_one]
    omega
  case passes =>
    intro htimer h
    refine ⟨_, (tick_of_timer htimer n).trans (prescale_of_le h), ?_, rfl⟩
    have hlt := s.presc.isLt
    simp only [BitVec.toNat_ofNat]
    omega
  case below =>
    intro htimer h
    refine ⟨_, (tick_of_timer htimer n).trans (prescale_of_lt h), ?_, rfl⟩
    simp only [BitVec.toNat_ofNat]
    omega

theorem sampleT1_of_fall {s : State} (hprev : s.t1Prev = true) (hpin : (nextPins s).t1 = false) :
    sampleT1 s = incrementT { s with t1Prev := false, inputs := s.inputs.tail, draws := s.draws + 1 } := by
  simp only [sampleT1, hprev, hpin, Bool.not_false, Bool.and_true, if_true]
  rfl

theorem sampleT1_of_not_fall {s : State} (h : ¬ (s.t1Prev = true ∧ (nextPins s).t1 = false)) :
    sampleT1 s = { s with t1Prev := (nextPins s).t1, inputs := s.inputs.tail, draws := s.draws + 1 } := by
  rw [sampleT1, if_neg (by simpa using h)]
  rfl

/-- A sample leaves the timer's mode. -/
theorem sampleT1_tmode (s : State) : (sampleT1 s).tmode = s.tmode := by rw [sampleT1_frame]

/-- Settles O52: one cycle is one sample. -/
theorem counterModeCountsFalls : Obligations.CounterModeCountsFalls := by
  intro s hcounter
  have hone : ∀ u : State, u.tmode = .counter → tick 1 u = sampleT1 u := fun _ h => tick_of_counter h 1
  refine ⟨fun hprev hpin => (hone s hcounter).trans (sampleT1_of_fall hprev hpin),
    fun h => (hone s hcounter).trans (sampleT1_of_not_fall h), ?_, tick_of_counter hcounter 0⟩
  rw [hone s hcounter, hone _ ((sampleT1_tmode s).trans hcounter)]
  exact tick_of_counter hcounter 2

/-! The boundary. -/

theorem boundary_of_none {s : State} (h : recognised s = none) : boundary s = sampleInt s := by
  simp only [boundary, h]

theorem boundary_of_some {s : State} {src : IrqSource} (h : recognised s = some src) :
    boundary s = tick Config.entryCycles (takeInterrupt src (sampleInt s)) := by
  simp only [boundary, h]

/-- `/INT` is not drawn while an interrupt is in progress or where the external one is disabled (log 6). -/
theorem sampleInt_of_masked {s : State} (h : s.iip = true ∨ s.ieExt = false) : sampleInt s = s := by
  rw [sampleInt, if_neg]
  rcases h with h | h <;> simp [h]

theorem sampleInt_of_open {s : State} (hiip : s.iip = false) (hie : s.ieExt = true) :
    sampleInt s = { s with inputs := s.inputs.tail, draws := s.draws + 1 } := by
  rw [sampleInt, if_pos (by simp [hiip, hie])]
  rfl

/-- The external source is recognised first (R336, R337). -/
theorem recognised_external {s : State} (hiip : s.iip = false) (hie : s.ieExt = true)
    (hint : (nextPins s).int = false) : recognised s = some .external := by
  simp [recognised, hiip, hie, hint]

/-- With no external request the timer's latch decides (R337, R338). -/
theorem recognised_of_no_external {s : State} (hiip : s.iip = false) (h : s.ieExt = false ∨ (nextPins s).int = true) :
    recognised s = timerRequest s := by
  rw [recognised, if_neg (by simp [hiip]), if_neg (by rcases h with h | h <;> simp [h])]

/-- Settles O47: nothing is recognised, so the boundary is the sample of `/INT` alone. -/
theorem boundaryWithoutInterrupt : Obligations.BoundaryWithoutInterrupt := by
  refine fun s => ⟨fun hiip => ?locked, fun hiip hie hirq => ?masked, fun hiip hie hint hirq => ?high⟩
  case locked => rw [boundary_of_none (recognised_iip hiip), sampleInt_of_masked (.inl hiip)]
  case masked =>
    have hnone : recognised s = none := by
      rw [recognised_of_no_external hiip (.inl hie), timerRequest, hirq]
      rfl
    rw [boundary_of_none hnone, sampleInt_of_masked (.inr hie)]
  case high =>
    have hnone : recognised s = none := by
      rw [recognised_of_no_external hiip (.inr hint), timerRequest, hirq]
      rfl
    rw [boundary_of_none hnone, sampleInt_of_open hiip hie]

/-- Settles O53: every field stands in the text of the two reset states. -/
theorem resetLeaves : Obligations.ResetLeaves := by
  refine ⟨fun s t h => ?written, fun t => ⟨rfl, rfl, rfl, rfl, rfl, rfl, rfl, rfl, fun e => ?expander, rfl, rfl, rfl⟩⟩
  case written =>
    rcases h with rfl | rfl
    · exact ⟨rfl, rfl, rfl, rfl, rfl, rfl, rfl, rfl, rfl, rfl, rfl, rfl, rfl, rfl, rfl, rfl⟩
    · exact ⟨rfl, rfl, rfl, rfl, rfl, rfl, rfl, rfl, rfl, rfl, rfl, rfl, rfl, rfl, rfl, rfl⟩
  case expander => cases e <;> rfl

/-- Settles O54: nothing is listed in a memory after reset, and nothing is requested. -/
theorem resetIsWellFormed : Obligations.ResetIsWellFormed := rfl

end Sys2Proof.Proofs
end

section
/-! SUPPORT. The PSW bit by bit (10_state.md R38 to R40, 46_data_movement.md R301, R305). -/

namespace Sys2Proof.Proofs

open Sys2Proof.Machine Sys2Proof.Claims

theorem getLsbD_highNibble (v : Byte) {k : Nat} (hk : k < 4) : (highNibble v).getLsbD k = v.getLsbD (4 + k) := by
  simp [highNibble, hk]

/-! Writing. -/

/-- The three status bits that `psw_write_hi` always writes. -/
theorem pswWriteHi_status (n : Nibble) (s : State) :
    (pswWriteHi n s).c = n.getLsbD 3 ∧ (pswWriteHi n s).ac = n.getLsbD 2 ∧ (pswWriteHi n s).f0 = n.getLsbD 1 := by
  rw [pswWriteHi_frame]
  exact ⟨rfl, rfl, rfl⟩

theorem pswWriteHi_of_f1 {s : State} (h : s.params.pswBit4 = .f1) (n : Nibble) :
    (pswWriteHi n s).f1 = n.getLsbD 0 ∧ (pswWriteHi n s).rb = s.rb := by
  simp only [pswWriteHi, setPswBit4, h, and_self]

theorem pswWriteHi_of_bs {s : State} (h : s.params.pswBit4 = .bs) (n : Nibble) :
    (pswWriteHi n s).rb = n.getLsbD 0 ∧ (pswWriteHi n s).f1 = s.f1 := by
  simp only [pswWriteHi, setPswBit4, h, and_self]

/-- The flag of bit 4 holds what a write of the PSW's upper half puts there. -/
theorem pswBit4_pswWriteHi (n : Nibble) (s : State) : pswBit4 (pswWriteHi n s) = n.getLsbD 0 := by
  unfold pswBit4 pswWriteHi setPswBit4
  cases h : s.params.pswBit4 <;> simp only [h]

/-- The upper half of a byte written as `psw_write` does, by the byte's own bits. -/
theorem pswWriteHi_highNibble_status (v : Byte) (s : State) :
    (pswWriteHi (highNibble v) s).c = v.getLsbD 7 ∧ (pswWriteHi (highNibble v) s).ac = v.getLsbD 6 ∧
      (pswWriteHi (highNibble v) s).f0 = v.getLsbD 5 := by
  obtain ⟨hc, hac, hf0⟩ := pswWriteHi_status (highNibble v) s
  exact ⟨hc.trans (getLsbD_highNibble v (by decide)), hac.trans (getLsbD_highNibble v (by decide)),
    hf0.trans (getLsbD_highNibble v (by decide))⟩

theorem pswWriteHi_highNibble_of_f1 {s : State} (h : s.params.pswBit4 = .f1) (v : Byte) :
    (pswWriteHi (highNibble v) s).f1 = v.getLsbD 4 ∧ (pswWriteHi (highNibble v) s).rb = s.rb :=
  (pswWriteHi_of_f1 h _).imp_left fun hf1 => hf1.trans (getLsbD_highNibble v (by decide))

theorem pswWriteHi_highNibble_of_bs {s : State} (h : s.params.pswBit4 = .bs) (v : Byte) :
    (pswWriteHi (highNibble v) s).rb = v.getLsbD 4 ∧ (pswWriteHi (highNibble v) s).f1 = s.f1 :=
  (pswWriteHi_of_bs h _).imp_left fun hrb => hrb.trans (getLsbD_highNibble v (by decide))

/-- The write of the upper half and the step of SP do not touch each other. -/
theorem pswWriteHi_popSp (n : Nibble) (s : State) :
    pswWriteHi n (popSp s) = { pswWriteHi n s with sp := s.sp - 1#3 } := by
  unfold pswWriteHi setPswBit4
  cases h : s.params.pswBit4 <;> simp only [popSp, h]

/-- `RETR` is the write of the popped nibble, with PC, SP and IIP of its own. -/
theorem returnRestore_eq (s : State) :
    returnRestore s = { pswWriteHi (poppedPsw s) s with pc := poppedPc s, sp := s.sp - 1#3, iip := false } := by
  rw [returnRestore, pswWriteHi_popSp]

/-- Settles O40: the two writes are the frames of the model's operations, with bit 4 by the parameter. -/
theorem pswWriteSetsFields : Obligations.PswWriteSetsFields := by
  refine fun s => ⟨fun v => ?write, fun n => ?writeHi, ⟨_, rfl, rfl⟩, ⟨_, rfl, ?retr⟩⟩
  case write =>
    obtain ⟨hc, hac, hf0⟩ := pswWriteHi_highNibble_status v s
    refine ⟨_, rfl, hc, hac, hf0, fun h => pswWriteHi_highNibble_of_f1 h v, fun h => pswWriteHi_highNibble_of_bs h v,
      ?_, ?_⟩
    · exact (toNat_extract_eq v 0 3).trans (by simp)
    · rw [pswWrite_frame]
  case writeHi =>
    obtain ⟨hc, hac, hf0⟩ := pswWriteHi_status n s
    refine ⟨_, rfl, hc, hac, hf0, fun h => pswWriteHi_of_f1 h n, fun h => pswWriteHi_of_bs h n, ?_⟩
    rw [pswWriteHi_frame]
  case retr => rw [returnRestore_eq]

/-! Reading. -/

theorem toNat_pswRead (s : State) :
    (pswRead s).toNat = 128 * s.c.toNat + 64 * s.ac.toNat + 32 * s.f0.toNat + 16 * (pswBit4 s).toNat +
      8 * s.params.pswBit3Read.toNat + s.sp.toNat := by
  simp only [pswRead, toNat_append_eq, BitVec.toNat_ofBool]
  omega

/-- The upper bits of the PSW as read. -/
theorem getLsbD_pswRead_high (s : State) :
    (pswRead s).getLsbD 7 = s.c ∧ (pswRead s).getLsbD 6 = s.ac ∧ (pswRead s).getLsbD 5 = s.f0 ∧
      (pswRead s).getLsbD 4 = pswBit4 s ∧ (pswRead s).getLsbD 3 = s.params.pswBit3Read := by
  simp only [pswRead, BitVec.getLsbD_append, BitVec.getLsbD_ofBool]
  simp

/-- The lower three bits are SP. -/
theorem getLsbD_pswRead_low (s : State) {k : Nat} (hk : k < 3) : (pswRead s).getLsbD k = s.sp.getLsbD k := by
  rw [pswRead, BitVec.getLsbD_append, if_pos hk]

/-- What is read after a write, but for bit 3 (R39, R40). -/
theorem getLsbD_pswRead_pswWrite (v : Byte) (s : State) {k : Nat} (hk : k < 8) (hk3 : k ≠ 3) :
    (pswRead (pswWrite v s)).getLsbD k = v.getLsbD k := by
  obtain ⟨h7, h6, h5, h4, -⟩ := getLsbD_pswRead_high (pswWrite v s)
  obtain ⟨hc, hac, hf0⟩ := pswWriteHi_highNibble_status v s
  have hbit4 : pswBit4 (pswWrite v s) = v.getLsbD 4 :=
    (pswBit4_pswWriteHi (highNibble v) s).trans (getLsbD_highNibble v (by decide))
  rcases (by omega : k < 3 ∨ k = 4 ∨ k = 5 ∨ k = 6 ∨ k = 7) with hlow | rfl | rfl | rfl | rfl
  · rw [getLsbD_pswRead_low _ hlow, pswWrite, BitVec.getLsbD_extractLsb', Nat.zero_add]
    simp only [hlow, decide_true, Bool.true_and]
  · exact h4.trans hbit4
  · exact h5.trans hf0
  · exact h6.trans hac
  · exact h7.trans hc

/-- Settles O41: the fields in numbers, and the read after the write bit by bit. -/
theorem pswReadBack : Obligations.PswReadBack := by
  refine fun s => ⟨⟨_, rfl, rfl, toNat_pswRead s⟩, ⟨_, _, rfl, rfl, ?a, ?bits, ?bit3⟩⟩
  case a => rw [pswWrite_frame]; rfl
  case bits => exact fun k hk hk3 => getLsbD_pswRead_pswWrite s.a s hk hk3
  case bit3 =>
    obtain ⟨-, -, -, -, h3⟩ := getLsbD_pswRead_high (pswWrite s.a s)
    exact h3.trans (by rw [pswWrite_frame])

end Sys2Proof.Proofs
end

section
/-! SUPPORT. The stack: a push in numbers, what a pop of it gives back, and the calls, returns and interrupt entries
built on them (10_state.md R45 to R48, 43_control_transfer.md R221, R239, R240, 60_exceptions.md R338, R342). -/

namespace Sys2Proof.Proofs

open Sys2Proof.Machine Sys2Proof.Claims

/-! SP wraps modulo 8. -/

theorem toNat_sp_add_one (p : BitVec 3) : (p + 1#3).toNat = (p.toNat + 1) % 8 := by
  simp [BitVec.toNat_add]

theorem toNat_sp_sub_one (p : BitVec 3) : (p - 1#3).toNat = (p.toNat + 7) % 8 := by
  simp [BitVec.toNat_sub, Nat.add_comm]

/-! The entry pushed. -/

theorem low_byte_eq_ofNat (pc : Addr12) : pc.extractLsb' 0 8 = BitVec.ofNat 8 pc.toNat := by
  apply BitVec.eq_of_toNat_eq
  rw [toNat_extract_eq, BitVec.toNat_ofNat]
  simp

theorem entryHigh_eq_ofNat (pc : Addr12) (psw : Byte) :
    entryHigh pc psw = BitVec.ofNat 8 (psw.toNat / 16 * 16 + pc.toNat / 256) := by
  have hpc := pc.isLt
  have hpsw := psw.isLt
  apply BitVec.eq_of_toNat_eq
  rw [entryHigh, highNibble, toNat_append_eq, toNat_extract_eq, toNat_extract_eq, BitVec.toNat_ofNat]
  omega

/-- RAM after a push, as the statements say it (R46, R47). -/
theorem ramAfterPush_of_push {s t : State} {pc : Addr12} {psw : Byte} (h : t.ram = (push pc psw s).ram) :
    ramAfterPush s t pc psw := by
  intro x
  have hodd : stackAddr s.sp + 1 = 0x09 + 2 * s.sp.toNat := by rw [stackAddr]; omega
  have heven : stackAddr s.sp = 0x08 + 2 * s.sp.toNat := rfl
  rw [readRam_congr h, readRam_push, hodd, heven, ← low_byte_eq_ofNat, ← entryHigh_eq_ofNat]
  by_cases hx : x = 0x08 + 2 * s.sp.toNat
  · rw [if_neg (by omega), if_pos hx, if_pos hx]
  · rw [if_neg hx, if_neg hx]

/-! What a pop gives. -/

theorem lowNibble_entryHigh (pc : Addr12) (psw : Byte) : lowNibble (entryHigh pc psw) = pc.extractLsb' 8 4 := by
  apply BitVec.eq_of_toNat_eq
  rw [lowNibble, entryHigh, highNibble, toNat_extract_eq, toNat_append_eq, toNat_extract_eq]
  omega

theorem highNibble_entryHigh (pc : Addr12) (psw : Byte) : highNibble (entryHigh pc psw) = highNibble psw := by
  apply BitVec.eq_of_toNat_eq
  rw [entryHigh, highNibble, highNibble, toNat_extract_eq, toNat_append_eq, toNat_extract_eq, toNat_extract_eq]
  omega

/-- The entry that a pop reads right after a push, from any state with that RAM and SP. -/
theorem pop_bytes_of_push {s w : State} {pc : Addr12} {psw : Byte} (hram : w.ram = (push pc psw s).ram)
    (hsp : w.sp = s.sp + 1#3) : popHigh w = entryHigh pc psw ∧ popLow w = pc.extractLsb' 0 8 := by
  have haddr : stackAddr (w.sp - 1#3) = stackAddr s.sp := by rw [hsp, BitVec.add_sub_cancel]
  constructor
  · rw [popHigh, haddr, readRam_congr hram, readRam_push, if_pos rfl]
  · rw [popLow, haddr, readRam_congr hram, readRam_push, if_neg (by omega), if_pos rfl]

/-- A pop right after a push gives back the address (R48). -/
theorem poppedPc_of_push {s w : State} {pc : Addr12} {psw : Byte} (hram : w.ram = (push pc psw s).ram)
    (hsp : w.sp = s.sp + 1#3) : poppedPc w = pc := by
  obtain ⟨hhigh, hlow⟩ := pop_bytes_of_push hram hsp
  have hpc := pc.isLt
  rw [poppedPc, hhigh, hlow, lowNibble_entryHigh]
  apply BitVec.eq_of_toNat_eq
  rw [toNat_append_eq, toNat_extract_eq, toNat_extract_eq]
  omega

/-- A pop right after a push gives back the upper half of the PSW. -/
theorem poppedPsw_of_push {s w : State} {pc : Addr12} {psw : Byte} (hram : w.ram = (push pc psw s).ram)
    (hsp : w.sp = s.sp + 1#3) : poppedPsw w = highNibble psw := by
  obtain ⟨hhigh, -⟩ := pop_bytes_of_push hram hsp
  rw [poppedPsw, hhigh, highNibble_entryHigh]

/-- The address popped, in numbers (R48). -/
theorem toNat_poppedPc (s : State) :
    (poppedPc s).toNat = (readRam s (0x09 + 2 * (s.sp - 1#3).toNat)).toNat % 16 * 256 +
      (readRam s (0x08 + 2 * (s.sp - 1#3).toNat)).toNat := by
  have hodd : stackAddr (s.sp - 1#3) + 1 = 0x09 + 2 * (s.sp - 1#3).toNat := by rw [stackAddr]; omega
  rw [poppedPc, toNat_append_eq, lowNibble, toNat_extract_eq, popHigh, popLow, hodd, stackAddr]
  simp

/-- The nibble popped is the upper half of the odd byte. -/
theorem poppedPsw_eq (s : State) : poppedPsw s = highNibble (readRam s (0x09 + 2 * (s.sp - 1#3).toNat)) := by
  have hodd : stackAddr (s.sp - 1#3) + 1 = 0x09 + 2 * (s.sp - 1#3).toNat := by rw [stackAddr]; omega
  rw [poppedPsw, popHigh, hodd]

/-! Calls and returns. -/

/-- Settles O27: a push of the address after the call, then the jump. -/
theorem callPushesAndJumps : Obligations.CallPushesAndJumps := fun s _ =>
  ⟨_, rfl, ramAfterPush_of_push rfl, toNat_sp_add_one s.sp, rfl⟩

/-- Settles O28: both pop the same entry; `RETR` then writes the popped nibble into the PSW. -/
theorem returnsPop : Obligations.ReturnsPop := by
  refine fun s => ⟨⟨_, rfl, toNat_sp_sub_one s.sp, toNat_poppedPc s, rfl⟩, ⟨_, rfl, ?_⟩⟩
  rw [returnRestore_eq, poppedPsw_eq]
  obtain ⟨hc, hac, hf0⟩ := pswWriteHi_highNibble_status (readRam s (0x09 + 2 * (s.sp - 1#3).toNat)) s
  refine ⟨toNat_sp_sub_one s.sp, toNat_poppedPc s, hc, hac, hf0, fun h => pswWriteHi_highNibble_of_f1 h _,
    fun h => pswWriteHi_highNibble_of_bs h _, ?_⟩
  rw [pswWriteHi_frame]

/-- `RETR` with the upper half of a state's PSW popped brings back that state's flags. -/
theorem returnRestore_status {s w : State} (hpsw : poppedPsw w = highNibble (pswRead s)) :
    (returnRestore w).c = s.c ∧ (returnRestore w).ac = s.ac ∧ (returnRestore w).f0 = s.f0 ∧
      pswBit4 (returnRestore w) = pswBit4 s := by
  obtain ⟨h7, h6, h5, h4, -⟩ := getLsbD_pswRead_high s
  obtain ⟨hc, hac, hf0⟩ := pswWriteHi_highNibble_status (pswRead s) w
  rw [returnRestore_eq, hpsw]
  refine ⟨hc.trans h7, hac.trans h6, hf0.trans h5, (pswBit4_pswWriteHi _ w).trans ?_⟩
  exact (getLsbD_highNibble (pswRead s) (by decide)).trans h4

/-- SP after a push and a pop. -/
theorem sp_add_sub_one {p q : BitVec 3} (h : q = p + 1#3) : q - 1#3 = p := by rw [h, BitVec.add_sub_cancel]

/-- Settles O29: the entry popped is the one the call pushed. -/
theorem returnUndoesCall : Obligations.ReturnUndoesCall := by
  intro s w u a hcall hram hsp _
  cases hcall
  have hpc := poppedPc_of_push hram hsp
  obtain ⟨hc, hac, hf0, hbit4⟩ := returnRestore_status (poppedPsw_of_push hram hsp)
  refine ⟨⟨_, rfl, hpc, sp_add_sub_one hsp⟩, ⟨_, rfl, ?_, ?_, hc, hac, hf0, hbit4⟩⟩
  · rw [returnRestore_eq]; exact hpc
  · rw [returnRestore_eq]; exact sp_add_sub_one hsp

/-! Interrupt entries. -/

/-- Settles O45: the external source is recognised, and its entry is a push of PC and PSW. -/
theorem externalInterruptEntry : Obligations.ExternalInterruptEntry := by
  intro s hiip hie hint
  refine ⟨_, boundary_of_some (recognised_external hiip hie hint), ?_⟩
  rw [sampleInt_of_open hiip hie]
  exact ⟨rfl, rfl, toNat_sp_add_one s.sp, ramAfterPush_of_push rfl, rfl⟩

/-- The draw of `/INT` at a boundary without an interrupt in progress, as the statements say it. -/
theorem sampleInt_of_clear {s : State} (hiip : s.iip = false) :
    sampleInt s = { s with inputs := if s.ieExt then s.inputs.tail else s.inputs,
                           draws := if s.ieExt then s.draws + 1 else s.draws } := by
  by_cases hie : s.ieExt = true
  · rw [if_pos hie, if_pos hie, sampleInt_of_open hiip hie]
  · rw [if_neg hie, if_neg hie, sampleInt_of_masked (.inr (by simpa using hie))]

/-- Settles O46: the timer's latch is recognised, and its entry is a push of PC and PSW. -/
theorem timerInterruptEntry : Obligations.TimerInterruptEntry := by
  intro s hiip hirq hno
  have hrec : recognised s = some .timer := by
    rw [recognised_of_no_external hiip hno, timerRequest, hirq]
    rfl
  refine ⟨_, boundary_of_some hrec, ?_⟩
  rw [sampleInt_of_clear hiip]
  exact ⟨rfl, rfl, rfl, toNat_sp_add_one s.sp, ramAfterPush_of_push rfl, rfl⟩

/-- Writing back the upper half of a state's own PSW, where the rest of the PSW's fields are still its own (R40). -/
theorem pswWriteHi_own {s w : State} (hparams : w.params = s.params) (hf1 : w.f1 = s.f1) (hrb : w.rb = s.rb) :
    pswWriteHi (highNibble (pswRead s)) w = { w with c := s.c, ac := s.ac, f0 := s.f0, f1 := s.f1, rb := s.rb } := by
  obtain ⟨h7, h6, h5, h4, -⟩ := getLsbD_pswRead_high s
  have hbit : ∀ k, k < 4 → (highNibble (pswRead s)).getLsbD k = (pswRead s).getLsbD (4 + k) :=
    fun _ => getLsbD_highNibble (pswRead s)
  have hbit4 : (pswWriteHi (highNibble (pswRead s)) w).f1 = s.f1 ∧
      (pswWriteHi (highNibble (pswRead s)) w).rb = s.rb := by
    cases hmode : s.params.pswBit4 with
    | f1 =>
      obtain ⟨hf, hr⟩ := pswWriteHi_highNibble_of_f1 (hparams ▸ hmode) (pswRead s)
      exact ⟨(hf.trans h4).trans (by simp only [pswBit4, hmode]), hr.trans hrb⟩
    | bs =>
      obtain ⟨hr, hf⟩ := pswWriteHi_highNibble_of_bs (hparams ▸ hmode) (pswRead s)
      exact ⟨hf.trans hf1, (hr.trans h4).trans (by simp only [pswBit4, hmode])⟩
  rw [pswWriteHi_frame, hbit4.1, hbit4.2, hbit 3 (by decide), hbit 2 (by decide), hbit 1 (by decide), h7, h6, h5]

/-- Settles O48: the entry popped is the one the interrupt pushed. -/
theorem retrUndoesInterruptEntry : Obligations.RetrUndoesInterruptEntry := by
  intro src s
  have hpc : poppedPc (takeInterrupt src s) = s.pc := poppedPc_of_push rfl rfl
  have hpsw : poppedPsw (takeInterrupt src s) = highNibble (pswRead s) := poppedPsw_of_push rfl rfl
  have hsp : (takeInterrupt src s).sp - 1#3 = s.sp := sp_add_sub_one rfl
  refine ⟨_, rfl, ?_⟩
  rw [returnRestore_eq, hpc, hpsw, hsp, pswWriteHi_own (s := s) (w := takeInterrupt src s) rfl rfl rfl]
  exact ⟨ramAfterPush_of_push rfl, by cases src <;> rfl⟩

end Sys2Proof.Proofs
end

section
/-! SUPPORT. The step: what it fetches and where it stops, and what every step keeps (30_encoding.md R129, R131;
20_memory.md R83, R93; 60_exceptions.md R330, R333, R337, R340; 70_reset_and_hazards.md R383, R392). -/

namespace Sys2Proof.Proofs

open Sys2Proof.Machine Sys2Proof.Claims

/-! The fetch. -/

theorem fetchInstr_eq_ok_iff (s : State) (i : Instr) :
    fetchInstr s = .ok i ↔ decodePair (readProg s s.pc) (readProg s (incPc s.pc)) = some i := by
  unfold fetchInstr
  cases decodePair (readProg s s.pc) (readProg s (incPc s.pc)) <;> simp

/-- The fetch faults exactly on the 26 bytes (R131). -/
theorem fetchInstr_eq_error_iff (s : State) :
    fetchInstr s = .error (.undefinedOpcode (readProg s s.pc)) ↔ readProg s s.pc ∈ undefinedOpcodes := by
  rw [← decodePair_eq_none_iff (readProg s s.pc) (readProg s (incPc s.pc))]
  unfold fetchInstr
  cases decodePair (readProg s s.pc) (readProg s (incPc s.pc)) <;> simp

/-- A fetched instruction is one of this hardware. -/
theorem wellFormed_of_fetchInstr {s : State} {i : Instr} (h : fetchInstr s = .ok i) : wellFormed i = true :=
  (encode_of_decodePair ((fetchInstr_eq_ok_iff s i).1 h)).1

/-- What the fetch reads after an instruction's bits were placed: its two bytes, the upper bits of the word being 0. -/
theorem readProg_withFetchWord (s : State) (nbits w : Nat) :
    readProg (s.withFetchWord nbits w) s.pc = BitVec.ofNat 8 (w % 2 ^ nbits) ∧
      readProg (s.withFetchWord nbits w) (incPc s.pc) = BitVec.ofNat 8 (w % 2 ^ nbits / 256) := by
  unfold State.withFetchWord placeAtPc
  constructor
  · rw [readProg_placeProg, if_neg (incPc_ne s.pc).symm, readProg_placeProg, if_pos rfl]
  · rw [readProg_placeProg, if_pos rfl]

/-- The fetch after a placement, from the bytes placed. -/
theorem fetchInstr_withFetchWord {s : State} {nbits w : Nat} {b0 b1 : Byte} {i : Instr}
    (h0 : w % 2 ^ nbits % 256 = b0.toNat) (h1 : w % 2 ^ nbits / 256 = b1.toNat) (hpair : decodePair b0 b1 = some i) :
    fetchInstr (s.withFetchWord nbits w) = .ok i := by
  obtain ⟨hread0, hread1⟩ := readProg_withFetchWord s nbits w
  have hb0 : BitVec.ofNat 8 (w % 2 ^ nbits) = b0 := BitVec.eq_of_toNat_eq ((BitVec.toNat_ofNat _ _).trans h0)
  have hb1 : BitVec.ofNat 8 (w % 2 ^ nbits / 256) = b1 := by rw [h1, BitVec.ofNat_toNat, BitVec.setWidth_eq]
  refine (fetchInstr_eq_ok_iff _ i).2 ?_
  have hpc : (s.withFetchWord nbits w).pc = s.pc := rfl
  rw [hpc, hread0, hread1, hb0, hb1, hpair]

/-- Settles O6: the two bytes placed are the ones fetched, and they decode to the instruction. -/
theorem placedInstructionIsFetched : Obligations.PlacedInstructionIsFetched := by
  refine fun s i hwf => ⟨fun b0 henc => ?one, fun b0 b1 henc => ?two, fun _ _ => rfl⟩
  case one =>
    have hpair := decodePair_encode [] i hwf
    rw [henc] at hpair
    have hb0 := b0.isLt
    exact fetchInstr_withFetchWord (b0 := b0) (b1 := 0#8) (by omega) (Nat.div_eq_of_lt (by omega)) hpair
  case two =>
    have hpair := decodePair_encode [] i hwf
    rw [henc] at hpair
    have hb0 := b0.isLt
    have hb1 := b1.isLt
    exact fetchInstr_withFetchWord (b0 := b0) (b1 := b1) (by omega) (by omega) hpair

/-! The step. -/

theorem step_of_fetch_error {s : State} {r : Fault} (h : fetchInstr s = .error r) : step s = .fault r := by
  simp only [step, h]

theorem step_of_next {s t : State} {i : Instr} (hf : fetchInstr s = .ok i) (hx : exec i s = .next t) :
    step s = .next (completeStep i s t) := by
  simp only [step, hf, hx]

theorem step_of_fault {s : State} {i : Instr} {r : Fault} (hf : fetchInstr s = .ok i) (hx : exec i s = .fault r) :
    step s = .fault r := by
  simp only [step, hf, hx]

/-- What a step can do: fault on an undefined byte, fault on a `MOVX` read of an unwritten byte, or go on (R131,
R330). -/
theorem step_outcomes (s : State) :
    (readProg s s.pc ∈ undefinedOpcodes ∧ step s = .fault (.undefinedOpcode (readProg s s.pc))) ∨
    (∃ r, fetchInstr s = .ok (.movxAInd r) ∧ readXram s (ptrValue s r) = none ∧
      step s = .fault (.uninitialisedXram (ptrValue s r))) ∨
    (∃ i t, fetchInstr s = .ok i ∧ exec i s = .next t ∧ step s = .next (completeStep i s t)) := by
  by_cases hundef : readProg s s.pc ∈ undefinedOpcodes
  · exact .inl ⟨hundef, step_of_fetch_error ((fetchInstr_eq_error_iff s).2 hundef)⟩
  · right
    obtain ⟨i, hpair⟩ := Option.ne_none_iff_exists'.1
      (mt (decodePair_eq_none_iff (readProg s s.pc) (readProg s (incPc s.pc))).1 hundef)
    have hfetch := (fetchInstr_eq_ok_iff s i).2 hpair
    rcases everyInstructionCompletes i s (wellFormed_of_fetchInstr hfetch) with ⟨t, hexec⟩ | ⟨r, rfl, hread, hexec⟩
    · exact .inr ⟨i, t, hfetch, hexec, step_of_next hfetch hexec⟩
    · exact .inl ⟨r, hfetch, hread, step_of_fault hfetch hexec⟩

/-- A fetched instruction is no undefined byte. -/
theorem not_mem_of_fetchInstr {s : State} {i : Instr} (h : fetchInstr s = .ok i) :
    readProg s s.pc ∉ undefinedOpcodes := by
  intro hmem
  rw [(fetchInstr_eq_error_iff s).2 hmem] at h
  cases h

/-- Settles O5: of the three outcomes of a step, only the fetch of an undefined byte has this fault. -/
theorem undefinedOpcodeFaults : Obligations.UndefinedOpcodeFaults := by
  intro s
  rcases step_outcomes s with ⟨hmem, hstep⟩ | ⟨r, hfetch, -, hstep⟩ | ⟨i, t, hfetch, -, hstep⟩
  · exact ⟨fun _ => hmem, fun _ => hstep⟩
  · rw [hstep]
    exact iff_of_false (by simp) (not_mem_of_fetchInstr hfetch)
  · rw [hstep]
    exact iff_of_false (by simp) (not_mem_of_fetchInstr hfetch)

/-- Settles O58: the three outcomes of a step exclude each other, and none is a refusal. -/
theorem stepStopsOnlyWhereTheSpecStops : Obligations.StepStopsOnlyWhereTheSpecStops := by
  intro s
  unfold safeStep
  rcases step_outcomes s with ⟨hmem, hstep⟩ | ⟨r, hfetch, hread, hstep⟩ | ⟨i, t, hfetch, hexec, hstep⟩
  · rw [hstep]
    exact ⟨by simp, iff_of_false (by simp) fun h => h.1 hmem⟩
  · rw [hstep]
    exact ⟨by simp, iff_of_false (by simp) fun h => h.2 r hfetch hread⟩
  · rw [hstep]
    refine ⟨by simp, iff_of_true ⟨_, rfl⟩ ⟨not_mem_of_fetchInstr hfetch, fun r hr hread => ?_⟩⟩
    obtain rfl : i = .movxAInd r := Except.ok.inj (hfetch.symm.trans hr)
    rw [exec_movxAInd_of_none hread] at hexec
    cases hexec

/-- The machine cycles of a row: two for two bytes and for the rows that R392 lists, else one. -/
theorem cyclesOf_eq (i : Instr) :
    cyclesOf i = if (encode i).length = 2 ∨ isOneByteTwoCycles i = true then 2 else 1 := by
  rw [length_encode]
  cases i <;> rfl

/-- Settles O7. -/
theorem stepRunsDecodedInstruction : Obligations.StepRunsDecodedInstruction := by
  refine ⟨fun s i rest hdec => ?step, cyclesOf_eq,
    fun s => ⟨fun i hT hC => ?plain, rfl, fun h => ?running, fun h => ?starting⟩⟩
  case step =>
    obtain ⟨hpair, -, -⟩ := (decode_cons_eq_ok_iff _ _ rest i).1 hdec
    have hfetch := (fetchInstr_eq_ok_iff s i).2 hpair
    unfold step
    rw [hfetch]
    rfl
  case plain => exact if_neg (by simp [hT, hC])
  case running => exact if_neg (by simp [h])
  case starting => exact if_pos (by simp [h])

/-! What the timer and the boundary keep. -/

/-- An overflow requests only where the timer's interrupt is enabled (R348). -/
theorem requestEnabled_incrementT {s : State} (h : requestEnabled s = true) : requestEnabled (incrementT s) = true := by
  by_cases ht : s.t = 0xFF#8
  · rw [incrementT_of_eq ht]
    have hold : (!s.tirq || s.ieTcnt) = true := h
    show (!(s.tirq || s.ieTcnt) || s.ieTcnt) = true
    revert hold
    cases s.tirq <;> cases s.ieTcnt <;> decide
  · rw [incrementT_of_ne ht]
    exact h

theorem requestEnabled_prescale {s : State} (n : Nat) (h : requestEnabled s = true) :
    requestEnabled (prescale n s) = true := by
  unfold prescale
  split
  · exact requestEnabled_incrementT h
  · exact h

theorem requestEnabled_sampleT1 {s : State} (h : requestEnabled s = true) : requestEnabled (sampleT1 s) = true := by
  unfold sampleT1
  split
  · exact requestEnabled_incrementT h
  · exact h

theorem requestEnabled_sampleCycles (n : Nat) : ∀ s : State, requestEnabled s = true →
    requestEnabled (sampleCycles n s) = true := by
  induction n with
  | zero => exact fun _ h => h
  | succ n ih => exact fun s h => ih (sampleT1 s) (requestEnabled_sampleT1 h)

theorem requestEnabled_tick {s : State} (n : Nat) (h : requestEnabled s = true) : requestEnabled (tick n s) = true := by
  cases hmode : s.tmode with
  | stopped => rwa [tick_of_stopped hmode]
  | timer => rw [tick_of_timer hmode]; exact requestEnabled_prescale n h
  | counter => rw [tick_of_counter hmode]; exact requestEnabled_sampleCycles n s h

/-- A tick writes no memory. -/
theorem memoryWf_tick {s : State} (n : Nat) (h : memoryWf s = true) : memoryWf (tick n s) = true := by
  rw [tick_frame]
  exact h

theorem wellFormedState_iff (s : State) : wellFormedState s = true ↔ memoryWf s = true ∧ requestEnabled s = true := by
  rw [wellFormedState, Bool.and_eq_true]

theorem wellFormedState_tick {s : State} (n : Nat) (h : wellFormedState s = true) :
    wellFormedState (tick n s) = true := by
  obtain ⟨hmem, hreq⟩ := (wellFormedState_iff s).1 h
  exact (wellFormedState_iff _).2 ⟨memoryWf_tick n hmem, requestEnabled_tick n hreq⟩

theorem wellFormedState_sampleInt {s : State} (h : wellFormedState s = true) :
    wellFormedState (sampleInt s) = true := by
  rw [sampleInt_frame]
  exact h

/-- An entry pushes inside RAM, and keeps or drops the timer's request. -/
theorem wellFormedState_takeInterrupt {s : State} (src : IrqSource) (h : wellFormedState s = true) :
    wellFormedState (takeInterrupt src s) = true := by
  obtain ⟨hmem, hreq⟩ := (wellFormedState_iff s).1 h
  refine (wellFormedState_iff _).2 ⟨?_, ?_⟩
  · exact memoryWf_ram (s := s) rfl (push_wf s.pc (pswRead s) s) rfl rfl hmem
  · cases src with
    | external => exact hreq
    | timer => rfl

theorem wellFormedState_boundary {s : State} (h : wellFormedState s = true) : wellFormedState (boundary s) = true := by
  rcases boundary_cases s with ⟨-, hb⟩ | ⟨src, -, hb⟩
  · rw [hb]
    exact wellFormedState_sampleInt h
  · rw [hb]
    exact wellFormedState_tick _ (wellFormedState_takeInterrupt src (wellFormedState_sampleInt h))

/-! What every step keeps. -/

/-- Settles O55: the instruction keeps the invariant, and so do the tick and the boundary after it. -/
theorem stepKeepsWellFormed : Obligations.StepKeepsWellFormed := by
  intro s t hwf hstep
  obtain ⟨hmem, hreq⟩ := (wellFormedState_iff s).1 hwf
  obtain ⟨i, u, -, hexec, rfl⟩ := step_cases hstep
  have hkeeps := exec_keeps hexec
  have hu : wellFormedState u = true := (wellFormedState_iff u).2 ⟨hkeeps.memory hmem, hkeeps.request hreq⟩
  exact wellFormedState_boundary (wellFormedState_tick _ hu)

/-- Settles O56: neither the instruction nor what completes the step writes them. -/
theorem stepKeepsProgramMemory : Obligations.StepKeepsProgramMemory := by
  intro s t hstep
  obtain ⟨i, u, -, hexec, rfl⟩ := step_cases hstep
  have hkeeps := exec_keeps hexec
  rw [completeStep_frame]
  exact ⟨hkeeps.prog, hkeeps.params⟩

/-- A boundary during an interrupt leaves the lockout (R340). -/
theorem iip_boundary_of_iip {s : State} (h : s.iip = true) : (boundary s).iip = true := by
  rw [boundary_of_none (recognised_iip h), sampleInt_of_masked (.inl h), h]

/-- Settles O49: every other row keeps IIP, and so do the tick and a boundary under the lockout. -/
theorem onlyRetrEndsLockout : Obligations.OnlyRetrEndsLockout := by
  intro s t hiip hstep hclear
  obtain ⟨i, u, hfetch, hexec, rfl⟩ := step_cases hstep
  have hi : i = .retr := by
    by_contra hne
    have hu : u.iip = true := ((exec_keeps hexec).iip hne).trans hiip
    have htick : (tick (countedCycles i s) u).iip = true := by rw [tick_frame]; exact hu
    rw [completeStep, iip_boundary_of_iip htick] at hclear
    cases hclear
  rw [hfetch, hi]

/-- A boundary at which no interrupt is possible changes nothing. -/
theorem boundary_of_no_interrupt {s : State} (h : s.iip = true ∨ (s.ieExt = false ∧ s.ieTcnt = false))
    (hreq : requestEnabled s = true) : boundary s = s := by
  obtain ⟨hlocked, hmasked, -⟩ := boundaryWithoutInterrupt s
  by_cases hiip : s.iip = true
  · exact hlocked hiip
  · obtain ⟨hext, htcnt⟩ := h.resolve_left hiip
    have hirq : s.tirq = false := by simpa [requestEnabled, htcnt] using hreq
    exact hmasked (by simpa using hiip) hext hirq

/-- Settles O59: the jump leaves PC, and neither the stopped timer nor the boundary changes anything. -/
theorem jumpToSelfIsFixedPoint : Obligations.JumpToSelfIsFixedPoint := by
  intro s a hfetch htarget hno hstopped hreq
  have hexec : exec (.jmp a) s = .next s := by
    show Host.Outcome.next (jumpTo (longTarget s a) s) = .next s
    rw [htarget]
    rfl
  rw [step_of_next hfetch hexec, completeStep, tick_of_stopped hstopped, boundary_of_no_interrupt hno hreq]

end Sys2Proof.Proofs
end

section
/-! SUPPORT. Sums and decimal adjust in numbers (40_arithmetic.md R150 to R157). -/

namespace Sys2Proof.Proofs

open Sys2Proof.Machine Sys2Proof.Claims

/-! The adder. -/

theorem exec_addOf (src : Source) (s : State) : exec (addOf src) s = .next (addSource src false s) := by
  cases src <;> rfl

theorem exec_addcOf (src : Source) (s : State) : exec (addcOf src) s = .next (addSource src s.c s) := by
  cases src <;> rfl

theorem toNat_add8_sum (x y : Byte) (cin : Bool) :
    (add8 x y cin).sum.toNat = (x.toNat + y.toNat + cin.toNat) % 256 := BitVec.toNat_ofNat _ _

theorem add8_carry_iff (x y : Byte) (cin : Bool) :
    (add8 x y cin).carry = true ↔ 256 ≤ x.toNat + y.toNat + cin.toNat := decide_eq_true_iff

theorem add8_aux_iff (x y : Byte) (cin : Bool) :
    (add8 x y cin).aux = true ↔ 16 ≤ x.toNat % 16 + y.toNat % 16 + cin.toNat := decide_eq_true_iff

theorem toNat_bool_eq_ite (b : Bool) : b.toNat = if b then 1 else 0 := by cases b <;> rfl

/-- Settles O10: the sum without a carry-in. -/
theorem addGivesSumAndCarries : Obligations.AddGivesSumAndCarries := fun s src =>
  ⟨_, exec_addOf src s, toNat_add8_sum _ _ false, add8_carry_iff _ _ false, add8_aux_iff _ _ false, rfl, rfl⟩

/-- Settles O11: the sum with C as the carry-in. -/
theorem addcGivesSumAndCarries : Obligations.AddcGivesSumAndCarries := by
  intro s src
  rw [← toNat_bool_eq_ite]
  exact ⟨_, exec_addcOf src s, toNat_add8_sum _ _ s.c, add8_carry_iff _ _ s.c, add8_aux_iff _ _ s.c, rfl, rfl⟩

/-! Decimal adjust. -/

theorem daLowFix_iff (a : Byte) (ac : Bool) : daLowFix a ac = true ↔ 9 < a.toNat % 16 ∨ ac = true := by
  rw [daLowFix, Bool.or_eq_true, decide_eq_true_iff]

theorem toNat_daLow (a : Byte) (ac : Bool) :
    (daLow a ac).toNat = if 9 < a.toNat % 16 ∨ ac = true then (a.toNat + 6) % 256 else a.toNat := by
  rw [daLow]
  by_cases h : daLowFix a ac = true
  · rw [if_pos h, if_pos ((daLowFix_iff a ac).1 h), BitVec.toNat_add]
    rfl
  · rw [if_neg h, if_neg (mt (daLowFix_iff a ac).2 h)]

theorem daLowCarry_iff (a : Byte) (c ac : Bool) :
    daLowCarry a c ac = true ↔ c = true ∨ ((9 < a.toNat % 16 ∨ ac = true) ∧ 0xF9 < a.toNat) := by
  rw [daLowCarry, Bool.or_eq_true, Bool.and_eq_true, daLowFix_iff, decide_eq_true_iff]

theorem daHighFix_iff (a : Byte) (c ac : Bool) :
    daHighFix a c ac = true ↔ 9 < (daLow a ac).toNat / 16 ∨ daLowCarry a c ac = true := by
  rw [daHighFix, Bool.or_eq_true, decide_eq_true_iff]

theorem toNat_daValue_of_fix {a : Byte} {c ac : Bool} (h : daHighFix a c ac = true) :
    (daValue a c ac).toNat = ((daLow a ac).toNat + 0x60) % 256 := by
  rw [daValue, if_pos h, BitVec.toNat_add]
  rfl

theorem daValue_of_not_fix {a : Byte} {c ac : Bool} (h : ¬ daHighFix a c ac = true) : daValue a c ac = daLow a ac := by
  rw [daValue, if_neg h]

/-- Settles O12: `low` and `carry` are what the first step leaves, and the second step adds under `daHighFix`. -/
theorem decimalAdjustByAlgorithm : Obligations.DecimalAdjustByAlgorithm := by
  refine fun s => ⟨_, rfl, fun low carry hlow hcarry => ?_, fun hmode => ?_, rfl⟩
  · rw [← toNat_daLow] at hlow
    rw [← daLowCarry_iff] at hcarry
    have hfix : 9 < low / 16 ∨ carry ↔ daHighFix s.a s.c s.ac = true := by rw [daHighFix_iff, hlow, hcarry]
    rw [hfix, hlow]
    refine ⟨toNat_daValue_of_fix, fun h => congrArg BitVec.toNat (daValue_of_not_fix h), fun hmode => ?_⟩
    show daFlag s.params.daCarry s.a s.c s.ac = true ↔ _
    rw [hmode]
    rfl
  · exact daFlag_of_ne (by rw [hmode]; decide) s.a s.c s.ac

/-! Packed BCD. -/

theorem toNat_bcd {n : Nat} (h : n < 100) : (bcd n).toNat = 16 * (n / 10) + n % 10 := by
  rw [bcd, BitVec.toNat_ofNat]
  omega

/-! A binary sum of packed digits: the upper digits sum to `h`, the lower ones with the carry-in to `k`. -/

/-- The first step of `DA A` makes the lower digit decimal and carries into the upper one. -/
theorem toNat_daLow_of_digits {a : Byte} {ac : Bool} {h k : Nat} (hk : k ≤ 19) (ha : a.toNat = (16 * h + k) % 256)
    (hac : ac = true ↔ 16 ≤ k) : (daLow a ac).toNat = (16 * (h + k / 10) + k % 10) % 256 := by
  rw [toNat_daLow]
  by_cases hfix : 10 ≤ k
  · rw [if_pos (by rw [hac]; omega)]
    omega
  · rw [if_neg (by rw [hac]; omega)]
    omega

/-- The second step of `DA A` adds where the upper digit, with that carry, is 10 or more. -/
theorem daHighFix_of_digits {a : Byte} {c ac : Bool} {h k : Nat} (hh : h ≤ 18) (hk : k ≤ 19)
    (ha : a.toNat = (16 * h + k) % 256) (hc : c = true ↔ 256 ≤ 16 * h + k) (hac : ac = true ↔ 16 ≤ k) :
    daHighFix a c ac = true ↔ 10 ≤ h + k / 10 := by
  rw [daHighFix_iff, daLowCarry_iff, toNat_daLow_of_digits hk ha hac, hc, hac]
  rcases Nat.lt_or_ge k 10 with hlt | hge
  · rw [Nat.div_eq_of_lt hlt, Nat.mod_eq_of_lt hlt]
    omega
  · rw [show k / 10 = 1 by omega, show k % 10 = k - 10 by omega]
    omega

/-- The two steps together drop the hundred and leave packed digits. -/
theorem toNat_daValue_of_digits {a : Byte} {c ac : Bool} {h k : Nat} (hh : h ≤ 18) (hk : k ≤ 19)
    (ha : a.toNat = (16 * h + k) % 256) (hc : c = true ↔ 256 ≤ 16 * h + k) (hac : ac = true ↔ 16 ≤ k) :
    (daValue a c ac).toNat = 16 * ((10 * h + k) % 100 / 10) + (10 * h + k) % 10 := by
  have hlow := toNat_daLow_of_digits hk ha hac
  have hfix := daHighFix_of_digits hh hk ha hc hac
  have htens : h + k / 10 = (10 * h + k) / 10 := by omega
  have hones : k % 10 = (10 * h + k) % 10 := by omega
  have hn : (10 * h + k) / 10 ≤ 19 := by omega
  rw [htens, hones] at hlow
  rw [htens] at hfix
  by_cases hadd : daHighFix a c ac = true
  · have hge := hfix.1 hadd
    have hdrop : (10 * h + k) % 100 / 10 = (10 * h + k) / 10 - 10 := by omega
    rw [toNat_daValue_of_fix hadd, hlow, hdrop]
    omega
  · have hlt := mt hfix.2 hadd
    have hkeep : (10 * h + k) % 100 = 10 * h + k := by omega
    rw [daValue_of_not_fix hadd, hlow, hkeep]
    omega

/-- `DA A` after a binary sum of two packed-BCD bytes and a carry-in: their decimal sum and its carry (R157). -/
theorem daValue_of_bcd_sum {x y : Nat} (hx : x < 100) (hy : y < 100) (cin : Bool) {r : AddResult}
    (hr : r = add8 (bcd x) (bcd y) cin) :
    daValue r.sum r.carry r.aux = bcd ((x + y + cin.toNat) % 100) ∧
      (daCarryOut r.sum r.carry r.aux = true ↔ 100 ≤ x + y + cin.toNat) := by
  have hcin := Bool.toNat_le cin
  have hh : x / 10 + y / 10 ≤ 18 := by omega
  have hk : x % 10 + y % 10 + cin.toNat ≤ 19 := by omega
  have hn : 10 * (x / 10 + y / 10) + (x % 10 + y % 10 + cin.toNat) = x + y + cin.toNat := by omega
  have hxn := toNat_bcd hx
  have hyn := toNat_bcd hy
  have hsum : r.sum.toNat = (16 * (x / 10 + y / 10) + (x % 10 + y % 10 + cin.toNat)) % 256 := by
    rw [hr, toNat_add8_sum, hxn, hyn]; congr 1; omega
  have hcarry : r.carry = true ↔ 256 ≤ 16 * (x / 10 + y / 10) + (x % 10 + y % 10 + cin.toNat) := by
    rw [hr, add8_carry_iff, hxn, hyn]; omega
  have haux : r.aux = true ↔ 16 ≤ x % 10 + y % 10 + cin.toNat := by
    rw [hr, add8_aux_iff, hxn, hyn]; omega
  have hvalue := toNat_daValue_of_digits hh hk hsum hcarry haux
  rw [hn] at hvalue
  refine ⟨BitVec.eq_of_toNat_eq ?_, (daHighFix_of_digits hh hk hsum hcarry haux).trans (by omega)⟩
  rw [toNat_bcd (Nat.mod_lt _ (by decide)), hvalue, Nat.mod_mod_of_dvd _ (by decide)]

/-- `DA A` after an addition, from the state. -/
theorem exec_daA_addSource_of_bcd {s : State} {src : Source} {x y : Nat} (hx : x < 100) (hy : y < 100)
    (ha : s.a = bcd x) (hsrc : readSource s src = bcd y) (cin : Bool) :
    ∃ t, exec .daA (addSource src cin s) = .next t ∧ t.a = bcd ((x + y + cin.toNat) % 100) ∧
      (s.params.daCarry = .setOnCarry → (t.c = true ↔ 100 ≤ x + y + cin.toNat)) := by
  obtain ⟨hvalue, hcarry⟩ := daValue_of_bcd_sum hx hy cin (r := add8 s.a (readSource s src) cin) (by rw [ha, hsrc])
  refine ⟨_, rfl, hvalue, fun hmode => ?_⟩
  refine Iff.trans ?_ hcarry
  show daFlag s.params.daCarry _ _ _ = true ↔ _
  rw [hmode]
  rfl

/-- Settles O13: both additions are binary sums of the two bytes, with no carry-in and with C. -/
theorem decimalAdjustMakesBcdSum : Obligations.DecimalAdjustMakesBcdSum := by
  intro s src x y hx hy ha hsrc
  rw [← toNat_bool_eq_ite]
  obtain ⟨t, hexec, hvalue⟩ := exec_daA_addSource_of_bcd hx hy ha hsrc false
  obtain ⟨t', hexec', hvalue'⟩ := exec_daA_addSource_of_bcd hx hy ha hsrc s.c
  exact ⟨⟨_, t, exec_addOf src s, hexec, hvalue⟩, ⟨_, t', exec_addcOf src s, hexec', hvalue'⟩⟩

end Sys2Proof.Proofs
end

section
/-! SUPPORT. The instructions that write a byte of RAM or of external data memory: increments, moves, exchanges and
`DJNZ` (40_arithmetic.md R159, R161, R162, 43_control_transfer.md R222, 46_data_movement.md R302 to R317). -/

namespace Sys2Proof.Proofs

open Sys2Proof.Machine Sys2Proof.Claims

/-! Bytes stepped or joined, as numbers. -/

theorem byte_add_one_eq_ofNat (x : Byte) : x + 1#8 = BitVec.ofNat 8 (x.toNat + 1) :=
  BitVec.eq_of_toNat_eq (by rw [toNat_byte_add_one, BitVec.toNat_ofNat])

theorem byte_sub_one_eq_ofNat (x : Byte) : x - 1#8 = BitVec.ofNat 8 (x.toNat + 255) :=
  BitVec.eq_of_toNat_eq (by rw [toNat_byte_sub_one, BitVec.toNat_ofNat])

/-- The upper half of one byte above the lower half of another. -/
theorem toNat_high_append_low (x y : Byte) :
    (highNibble x ++ lowNibble y).toNat = x.toNat / 16 * 16 + y.toNat % 16 := by
  have hx := x.isLt
  rw [toNat_append_eq, highNibble, lowNibble, toNat_extract_eq, toNat_extract_eq]
  omega

theorem high_append_low_eq_ofNat (x y : Byte) :
    highNibble x ++ lowNibble y = BitVec.ofNat 8 (x.toNat / 16 * 16 + y.toNat % 16) := by
  apply BitVec.eq_of_toNat_eq
  have hlt := (highNibble x ++ lowNibble y).isLt
  rw [toNat_high_append_low] at hlt ⊢
  rw [BitVec.toNat_ofNat, Nat.mod_eq_of_lt hlt]

/-! Internal RAM. -/

/-- Settles O15: each effect is one RAM write of the byte stepped by one. -/
theorem incDecRam : Obligations.IncDecRam := by
  intro s n r
  rw [← byte_add_one_eq_ofNat, ← byte_sub_one_eq_ofNat, ← byte_add_one_eq_ofNat]
  exact ⟨⟨_, rfl, ramAfter_of_write rfl, rfl⟩, ⟨_, rfl, ramAfter_of_write rfl, rfl⟩,
    ⟨_, rfl, ramAfter_of_write rfl, rfl⟩⟩

/-- Settles O38: the byte that `MOVP` reads stands at offset A of the page of the next instruction. -/
theorem movesIntoAccumulator : Obligations.MovesIntoAccumulator := by
  refine fun s => ⟨fun _ => rfl, fun _ => rfl, fun q hq => ?_⟩
  rw [eq_page_append hq]
  rfl

/-- Settles O39: each effect is one RAM write. -/
theorem movesIntoRam : Obligations.MovesIntoRam := fun _ _ _ _ =>
  ⟨⟨_, rfl, ramAfter_of_write rfl, rfl⟩, ⟨_, rfl, ramAfter_of_write rfl, rfl⟩, ⟨_, rfl, ramAfter_of_write rfl, rfl⟩,
    ⟨_, rfl, ramAfter_of_write rfl, rfl⟩⟩

/-- Settles O44: both sides are read from the old state, and RAM is written once. -/
theorem exchanges : Obligations.Exchanges := by
  intro s n r
  rw [← high_append_low_eq_ofNat]
  exact ⟨⟨_, rfl, ramAfter_of_write rfl, rfl⟩, ⟨_, rfl, ramAfter_of_write rfl, rfl⟩,
    ⟨_, rfl, ramAfter_of_write rfl, toNat_high_append_low _ _, rfl⟩⟩

/-! Jumps within a page. -/

theorem branch_true (l : Byte) (s : State) : branch true l s = { s with pc := pageTarget s l } := rfl

theorem branch_false (l : Byte) (s : State) : branch false l s = { s with pc := afterBytes 2 s.pc } := rfl

/-- A register stepped down to zero held 1. -/
theorem byte_sub_one_eq_zero_iff (x : Byte) : x - 1#8 = 0x00#8 ↔ x.toNat = 1 := by
  have hx := x.isLt
  rw [← BitVec.toNat_inj, toNat_byte_sub_one]
  simp only [BitVec.toNat_ofNat]
  omega

/-- Settles O32: one RAM write, and a jump on the byte written. -/
theorem djnzCountsDown : Obligations.DjnzCountsDown := by
  intro s n l
  rw [← byte_sub_one_eq_ofNat]
  refine ⟨_, rfl, ramAfter_of_write rfl, fun hne => ?_, fun heq => ?_, rfl⟩
  · rw [decide_eq_true (mt (byte_sub_one_eq_zero_iff _).1 hne)]
    rfl
  · rw [decide_eq_false (not_not.2 ((byte_sub_one_eq_zero_iff _).2 heq))]
    rfl

/-! External data memory. -/

/-- Settles O42: one write of external data memory. -/
theorem movxWrites : Obligations.MovxWrites := fun s r =>
  ⟨_, rfl, fun x => readXram_writeXram (ptrValue s r) x s.a s, rfl⟩

/-- Settles O43. -/
theorem movxReads : Obligations.MovxReads := fun _ _ =>
  ⟨fun _ h => exec_movxAInd_of_some h, fun h => exec_movxAInd_of_none h⟩

end Sys2Proof.Proofs
end

section
/-! SUPPORT. The jumps (43_control_transfer.md R223 to R238). -/

namespace Sys2Proof.Proofs

open Sys2Proof.Machine Sys2Proof.Claims

/-- A jump within a page, by the condition it tests. -/
theorem branch_of_iff {cond : Prop} {taken : Bool} (h : cond ↔ taken = true) (l : Byte) (s : State) :
    (cond → branch taken l s = { s with pc := pageTarget s l }) ∧
      (¬ cond → branch taken l s = { s with pc := afterBytes 2 s.pc }) := by
  constructor
  · intro hc
    rw [h.1 hc, branch_true]
  · intro hc
    rw [eq_false_of_ne_true (mt h.2 hc), branch_false]

/-- A bit of a byte, in numbers. -/
theorem getLsbD_iff_div_mod (x : Byte) (k : Nat) : x.getLsbD k = true ↔ x.toNat / 2 ^ k % 2 = 1 := by
  rw [BitVec.getLsbD, Nat.testBit_eq_decide_div_mod_eq, decide_eq_true_iff]

/-- The instruction is the jump on `taken`, and `cond` says when that holds. -/
theorem exec_eq_of_branch {cond : Prop} {taken : Bool} {i : Instr} {l : Byte} {s : State}
    (hexec : exec i s = .next (branch taken l s)) (h : cond ↔ taken = true) :
    (cond → exec i s = .next { s with pc := pageTarget s l }) ∧
      (¬ cond → exec i s = .next { s with pc := afterBytes 2 s.pc }) := by
  obtain ⟨htaken, hnot⟩ := branch_of_iff h l s
  exact ⟨fun hc => hexec.trans (congrArg _ (htaken hc)), fun hc => hexec.trans (congrArg _ (hnot hc))⟩

/-- Settles O30: each row is the jump on its own flag or bit. -/
theorem conditionalJumps : Obligations.ConditionalJumps := by
  refine ⟨fun s l => ?jtf, fun s l b i cond hrow => ?flags⟩
  case jtf =>
    show Host.Outcome.next (branch s.tf l { s with tf := false }) = _
    cases s.tf <;> rfl
  case flags =>
    have hzero : s.a.toNat = 0 ↔ s.a = 0x00#8 := (BitVec.toNat_inj (x := s.a) (y := 0x00#8))
    rcases hrow with ⟨rfl, h⟩ | ⟨rfl, h⟩ | ⟨rfl, h⟩ | ⟨rfl, h⟩ | ⟨rfl, h⟩ | ⟨rfl, h⟩ | ⟨rfl, h⟩
    · exact exec_eq_of_branch (taken := s.c) rfl h
    · exact exec_eq_of_branch (taken := !s.c) rfl (h.trans (by rw [Bool.not_eq_true']))
    · exact exec_eq_of_branch (taken := s.f0) rfl h
    · exact exec_eq_of_branch (taken := s.f1) rfl h
    · exact exec_eq_of_branch (taken := decide (s.a = 0x00#8)) rfl (h.trans (hzero.trans decide_eq_true_iff.symm))
    · exact exec_eq_of_branch (taken := decide (s.a ≠ 0x00#8)) rfl (h.trans (hzero.not.trans decide_eq_true_iff.symm))
    · exact exec_eq_of_branch (taken := s.a.getLsbD b.val) rfl (h.trans (getLsbD_iff_div_mod s.a b.val).symm)

/-- A jump on a pin, by the level drawn. -/
theorem branchOnPin_eq (taken : PinLevels → Bool) (l : Byte) (s : State) :
    branchOnPin taken l s = { s with
      pc := if taken (nextPins s) then pageTarget s l else afterBytes 2 s.pc, inputs := s.inputs.tail,
      draws := s.draws + 1 } := rfl

/-- Settles O31: each row is the jump on its own pin. -/
theorem pinJumps : Obligations.PinJumps := by
  intro s l i cond hrow
  rcases hrow with ⟨rfl, rfl⟩ | ⟨rfl, rfl⟩ | ⟨rfl, rfl⟩ | ⟨rfl, rfl⟩ | ⟨rfl, rfl⟩
  · exact congrArg Host.Outcome.next (branchOnPin_eq (fun p => !p.int) l s)
  · exact congrArg Host.Outcome.next (branchOnPin_eq (fun p => !p.t0) l s)
  · exact congrArg Host.Outcome.next (branchOnPin_eq (fun p => !p.t1) l s)
  · exact congrArg Host.Outcome.next (branchOnPin_eq (fun p => p.t0) l s)
  · exact congrArg Host.Outcome.next (branchOnPin_eq (fun p => p.t1) l s)

/-- Settles O33: the byte that `JMPP` jumps by stands at offset A of the page of the next instruction. -/
theorem jmpAndJmpp : Obligations.JmpAndJmpp := by
  refine fun s => ⟨fun _ => rfl, ⟨_, rfl, rfl, fun q hq => ?_⟩⟩
  rw [eq_page_append hq]
  exact toNat_page_append (afterBytes 1 s.pc) _

end Sys2Proof.Proofs
end

section
/-! SUPPORT. Logic with a register and RAM, the rotates through C, the ports and the system-control rows (41_logical.md,
42_io_ports.md, 45_system_control.md). -/

namespace Sys2Proof.Proofs

open Sys2Proof.Machine Sys2Proof.Claims

/-! Logic. -/

/-- Settles O17: each effect is one bitwise write of A. -/
theorem logicRegisterAndMemory : Obligations.LogicRegisterAndMemory := fun _ _ _ =>
  ⟨⟨_, rfl, fun _ _ => BitVec.getLsbD_and, rfl⟩, ⟨_, rfl, fun _ _ => BitVec.getLsbD_or, rfl⟩,
    ⟨_, rfl, fun _ _ => BitVec.getLsbD_xor, rfl⟩, ⟨_, rfl, fun _ _ => BitVec.getLsbD_and, rfl⟩,
    ⟨_, rfl, fun _ _ => BitVec.getLsbD_or, rfl⟩, ⟨_, rfl, fun _ _ => BitVec.getLsbD_xor, rfl⟩⟩

/-- `RLC`: C comes in at bit 0 and the other bits move up (R179). -/
theorem getLsbD_rotLeftCarry (a : Byte) (c : Bool) :
    (∀ k, k < 7 → (rotLeftCarry a c).getLsbD (k + 1) = a.getLsbD k) ∧ (rotLeftCarry a c).getLsbD 0 = c := by
  constructor
  · intro k hk
    rw [rotLeftCarry, BitVec.getLsbD_append, if_neg (by omega), BitVec.getLsbD_extractLsb']
    simp [hk]
  · rw [rotLeftCarry, BitVec.getLsbD_append, if_pos (by decide)]
    simp

/-- `RRC`: C comes in at bit 7 and the other bits move down (R181). -/
theorem getLsbD_rotRightCarry (a : Byte) (c : Bool) :
    (∀ k, k < 7 → (rotRightCarry a c).getLsbD k = a.getLsbD (k + 1)) ∧ (rotRightCarry a c).getLsbD 7 = c := by
  constructor
  · intro k hk
    rw [rotRightCarry, BitVec.getLsbD_append, if_pos hk, BitVec.getLsbD_extractLsb', Nat.add_comm 1 k]
    simp [hk]
  · rw [rotRightCarry, BitVec.getLsbD_append, if_neg (by decide)]
    simp

/-- Settles O19. -/
theorem rotatesThroughCarry : Obligations.RotatesThroughCarry := by
  intro s
  obtain ⟨hleft, hleft0⟩ := getLsbD_rotLeftCarry s.a s.c
  obtain ⟨hright, hright7⟩ := getLsbD_rotRightCarry s.a s.c
  exact ⟨⟨_, rfl, hleft, hleft0, rfl, rfl⟩, ⟨_, rfl, hright, hright7, rfl, rfl⟩⟩

/-! Ports. -/

/-- A port write changes that latch alone and shows it. -/
theorem latchOf_portWrite (p q : Port) (v : Byte) (s : State) :
    latchOf (portWrite p v s) q = if q = p then v else latchOf s q := latchOf_setLatch p q v s

/-- Settles O23: each row is one port write, or the bus write. -/
theorem portLatchesWritten : Obligations.PortLatchesWritten := by
  refine fun s p q v => ⟨⟨_, rfl, fun x => latchOf_portWrite p x _ s, ?anl⟩,
    ⟨_, rfl, fun x => latchOf_portWrite p x _ s, ?orl⟩,
    ⟨_, rfl, fun x => latchOf_portWrite (ioPort q) x _ s, ?outl⟩, rfl⟩
  case anl => rw [portWrite_frame]; rfl
  case orl => rw [portWrite_frame]; rfl
  case outl => cases q <;> rfl

/-- Settles O24: one draw for each row; the upper half of what `MOVD` reads is zero. -/
theorem portPinsRead : Obligations.PortPinsRead := by
  refine fun s e => ⟨rfl, rfl, rfl, ⟨_, rfl, ?_, rfl⟩⟩
  show (0#4 ++ expRead s e).toNat = _
  rw [toNat_append_eq]
  cases e <;> simp [expRead]

/-- An expander write changes that port alone and shows it. -/
theorem expOf_expWrite (e f : ExpPort) (v : Nibble) (s : State) :
    expOf (expWrite e v s) f = if f = e then v else expOf s f := expOf_setExp e f v s

/-- A row that writes one expander port. -/
theorem expander_row {i : Instr} {s : State} {e : ExpPort} {v : Nibble}
    (h : exec i s = .next (advance 1 (expWrite e v s))) :
    ∃ t, exec i s = .next t ∧ (∀ x, expOf t x = if x = e then v else expOf s x) ∧
      t = { s with exp4 := t.exp4, exp5 := t.exp5, exp6 := t.exp6, exp7 := t.exp7,
                   shown := .expander e v :: s.shown, pc := afterBytes 1 s.pc } := by
  refine ⟨_, h, fun x => expOf_expWrite e x v s, ?_⟩
  rw [expWrite_frame]
  rfl

/-- Settles O25: each row is one expander write. -/
theorem expanderPortsWritten : Obligations.ExpanderPortsWritten := by
  intro s e i v hrow
  rcases hrow with ⟨rfl, rfl⟩ | ⟨rfl, rfl⟩ | ⟨rfl, rfl⟩
  · exact expander_row rfl
  · exact expander_row rfl
  · exact expander_row rfl

/-! System control. -/

/-- Settles O35: each row is one field written, then the PC. -/
theorem controlLatches : Obligations.ControlLatches := fun _ _ => ⟨rfl, rfl, rfl, rfl, rfl, rfl, rfl, rfl⟩

theorem sampleForCounter_of_counter {s : State} (h : s.tmode = .counter) : sampleForCounter s = s := if_pos h

theorem sampleForCounter_of_ne {s : State} (h : s.tmode ≠ .counter) :
    sampleForCounter s = usePins { s with t1Prev := (nextPins s).t1 } := if_neg h

/-- Settles O36: `STRT CNT` samples T1 only where the counter was not running. -/
theorem timerControls : Obligations.TimerControls := by
  refine fun s => ⟨rfl, rfl, fun h => ?running, fun h => ?starting⟩
  case running =>
    show Host.Outcome.next (advance 1 { sampleForCounter s with tmode := .counter }) = _
    rw [sampleForCounter_of_counter h, ← h]
    rfl
  case starting =>
    show Host.Outcome.next (advance 1 { sampleForCounter s with tmode := .counter }) = _
    rw [sampleForCounter_of_ne h]
    rfl

end Sys2Proof.Proofs
end
